-- ==== Sys2Proof/Word.lean ====
section
/-! DEFINITION. The words, index ranges and plain containers that the spec's records are made of
(spec/00_scope.md, Quantities, Indices, Phases and phase sets, Byte order). -/

namespace Sys2Proof

/-- One byte of a command, a result or a frame. -/
abbrev Byte := BitVec 8

/-- A two-byte field, high byte first on the wire; also an epoch number, whose arithmetic is modulo 65536. -/
abbrev Half := BitVec 16

/-- A 24-bit sensor address, and the join value and mask. -/
abbrev Addr := BitVec 24

/-- Node index 0..63. -/
abbrev NodeIx := Fin 64

/-- Section index 0..127. -/
abbrev SecIx := Fin 128

/-- Zone index 0..3. -/
abbrev ZoneIx := Fin 4

/-- Profile index 0..7. -/
abbrev ProfIx := Fin 8

/-- A moment, counted in cycles of REFCLK (log entry 1). -/
abbrev Moment := Nat

/-- The three phases, in the order in which the part takes them. -/
inductive Phase where
  | a | b | c
deriving DecidableEq, Repr

/-- One value for each phase. -/
structure PerPhase (α : Type) where
  a : α
  b : α
  c : α
deriving DecidableEq, Repr

/-- A set of phases: true for each phase it holds. -/
abbrev PhaseSet := PerPhase Bool

/-- A table of exactly `n` records. -/
structure Table (α : Type) (n : Nat) where
  cells : List α
  size_eq : cells.length = n
deriving DecidableEq, Repr

/-- The high byte of a two-byte field. -/
def hiByte (h : Half) : Byte := h.extractLsb' 8 8

/-- The low byte of a two-byte field. -/
def loByte (h : Half) : Byte := h.extractLsb' 0 8

end Sys2Proof
end

