-- ==== Sys2Proof/Config.lean ====
section
/-! DEFINITION. What the spec fixes for every part, and the model's two free values. -/

namespace Sys2Proof.Config

/-- Cycles of REFCLK (4.096 MHz, spec/00_scope.md) in one millisecond. DESIGN CHOICE, log entry 1: the
model counts time in these cycles; the spec states every time in milliseconds. -/
def cyclesPerMs : Nat := 4096

/-- The gap limit of R57, in milliseconds. -/
def gapLimitMs : Nat := 2

/-- First and second sync bytes of a frame (R54, R183). -/
def sync1 : Byte := 0xC9#8
def sync2 : Byte := 0x36#8

/-- The type byte of a report (R58). -/
def reportType : Byte := 0x01#8

/-- Generator polynomial and initial value of the frame CRC (R56). -/
def crcPoly : Half := 0x1021#16
def crcInit : Half := 0xFFFF#16

/-- The amnesia value of the feeder ID (R65). -/
def amnesiaId : Nat := 63

/-- Bounds to which admitted values are clamped (R62) and taps are clamped (R13). -/
def voltageMax : Nat := 2047
def currentMax : Nat := 32767

/-- At most four slots are open (R77). -/
def slotCount : Nat := 4

/-- The part revision that READ DEVICE returns (R165). -/
def partRevision : Byte := 1#8

/-- Which of the rows that are due at one moment, and of the next piece of the work in hand beside them, is
taken first. The spec lets events of one moment be taken in either order, and an event between the work on two
records (R84, R89, R113, R150, R151): a free value, applied to the count of choices made so far (log entry
3). -/
opaque arbiter : Nat → Nat

/-- Whether the owning block takes a command before the byte on MISO that begins as the command completes is
fixed. The spec lets the taking fall on either side of a status byte (R173, R178; section 9.5, transaction
4): a free value, applied to the count of choices made so far (log entry 12). -/
opaque promptTaking : Nat → Bool

end Sys2Proof.Config
end

