-- ==== Sys2Proof/Syntax.lean ====
section
/-! DEFINITION. The commands of the block: one constructor for each row of spec/opcode_table.json, with
the row's operands. Event rows that the spec times from their own moment carry that moment (log entry 4).
Host commands carry their parameter fields as sent (R12, R35, R53, R69, R117, R130). -/

namespace Sys2Proof

/-- The input levels that the end of a reset reads: the identity straps (R65), BRK0..BRK3 (R129) and
CS_N (R177). A level is true when the pin is high; bit k of `fid` is FIDk and bit z of `brk` is BRKz. -/
structure ResetPins where
  fid    : BitVec 6
  fidPar : Bool
  brk    : BitVec 4
  csLow  : Bool
deriving DecidableEq, Repr

/-- The commands, in the order of spec/opcode_table.json. -/
inductive Instr where
  /-- POWER_ON_RESET (R4, R116). -/
  | powerOnReset (pins : ResetPins)
  /-- RST_N_RESET (R4, R116). -/
  | rstNReset (pins : ResetPins)
  /-- CHARACTER_RECEIVED (R52): the moment its stop bit is sampled, that bit's level, the data bits. -/
  | characterReceived (moment : Moment) (stopHigh : Bool) (data : Byte)
  /-- GAP_TIMER_EXPIRY (R57). -/
  | gapTimerExpiry
  /-- SYNC_PULSE (R71 to R75): the moment of the rising edge. -/
  | syncPulse (moment : Moment)
  /-- SYNC_TIMER_EXPIRY (R72). -/
  | syncTimerExpiry
  /-- HOLDOVER_TICK (R73, R74). -/
  | holdoverTick
  /-- FREE_TICK (R75). -/
  | freeTick
  /-- SLOT_DEADLINE (R81): the epoch number of the slot whose deadline passes. -/
  | slotDeadline (epoch : Half)
  /-- BRK_LEVEL_CHANGE (R133): the moment, the zone and the new level. -/
  | brkLevelChange (moment : Moment) (zone : Nat) (high : Bool)
  /-- DEBOUNCE_EXPIRY (R133): the zone. -/
  | debounceExpiry (zone : Nat)
  /-- TRIP_TIMEOUT (R146, R147): the zone. -/
  | tripTimeout (zone : Nat)
  /-- TRANSACTION_START (R168): the moment at which CS_N falls. -/
  | transactionStart (moment : Moment)
  /-- ACCESS_BYTE (R169). -/
  | accessByte (b : Byte)
  /-- CODE_BYTE (R171). -/
  | codeByte (b : Byte)
  /-- PARAMETER_BYTE (R172). -/
  | parameterByte (b : Byte)
  /-- OVERRUN_BYTE (R174). -/
  | overrunByte (b : Byte)
  /-- RESULT_BYTE_READ (R175). -/
  | resultByteRead
  /-- STATUS_BYTE_READ (R179). -/
  | statusByteRead
  /-- TRANSACTION_END (R168, R172). -/
  | transactionEnd
  /-- SET_LINK_RATE (R53). -/
  | setLinkRate (rate : Byte)
  /-- SET_JOIN_FILTER (R61). -/
  | setJoinFilter (value mask : Addr)
  /-- SET_FEEDER_ID (R67). -/
  | setFeederId (id : Byte)
  /-- READ_LINK_COUNTERS (R64). -/
  | readLinkCounters
  /-- SET_EPOCH_CLOCK (R69). -/
  | setEpochClock (source period grace : Byte) (holdoverLimit window : Half) (missLimit : Byte)
  /-- READ_EPOCH_CLOCK (R76). -/
  | readEpochClock
  /-- SET_EPOCH_NUMBER (R85). -/
  | setEpochNumber (n : Half)
  /-- RESTART_EVALUATION (R86). -/
  | restartEvaluation
  /-- LOAD_PROFILE (R117). -/
  | loadProfile (index : Byte) (liveLevel openRatio : Half) (openStep openSuspect openTrip : Byte)
      (leakMin leakUnit : Half) (leakDecay leakSuspect leakTrip : Byte) (reverseTol : Half)
      (settleEpochs : Byte)
  /-- READ_PROFILE (R121). -/
  | readProfile (index : Byte)
  /-- BIND_NODE (R35). -/
  | bindNode (node : Byte) (addr : Addr) (phases : Byte)
  /-- UNBIND_NODE (R37). -/
  | unbindNode (node : Byte)
  /-- READ_NODE (R38). -/
  | readNode (node : Byte)
  /-- READ_STRANGERS (R50). -/
  | readStrangers
  /-- CLEAR_STRANGER (R51). -/
  | clearStranger (slot : Byte)
  /-- CREATE_SECTION (R14). -/
  | createSection (sec upstream zone phases profile : Byte)
  /-- EDIT_SECTION (R16). -/
  | editSection (sec node1 node2 node3 node4 : Byte) (tapA tapB tapC : Half)
  /-- COMMIT_SECTION (R18). -/
  | commitSection (sec : Byte)
  /-- RECALL_SECTION (R19). -/
  | recallSection (sec : Byte)
  /-- TUNE_SECTION (R20). -/
  | tuneSection (sec profile : Byte) (tapA tapB tapC : Half)
  /-- ACKNOWLEDGE_SECTION (R22). -/
  | acknowledgeSection (sec : Byte)
  /-- RETIRE_SECTION (R24). -/
  | retireSection (sec : Byte)
  /-- READ_SECTION (R25). -/
  | readSection (sec : Byte)
  /-- SCAN_SECTIONS (R27). -/
  | scanSections (start field comparison key : Byte)
  /-- SET_ZONE (R130). -/
  | setZone (zone hazard tripEnable escalationEnable : Byte) (tripTimeout : Half)
      (debounce polarity : Byte)
  /-- READ_ZONE (R132). -/
  | readZone (zone : Byte)
  /-- TRIP_ZONE (R144). -/
  | tripZone (zone : Byte)
  /-- RELEASE_TRIP (R149). -/
  | releaseTrip (zone : Byte)
  /-- SENSE_OUTCOME (R154). -/
  | senseOutcome
  /-- HOLD_PERMIT (R159). -/
  | holdPermit (zone hold : Byte)
  /-- CLEAR_ALERTS (R163). -/
  | clearAlerts (mask : Byte)
  /-- SET_ALERT_ENABLE (R164). -/
  | setAlertEnable (mask : Byte)
  /-- READ_DEVICE (R165). -/
  | readDevice
  /-- START_BIT (R52, R57): the moment of its falling edge. -/
  | startBit (moment : Moment)
deriving DecidableEq, Repr

end Sys2Proof
end

