-- ==== Sys2Proof/Decode.lean ====
section
/-! DEFINITION. The command words of the Host Port: a code byte and its parameter bytes (R171, the codes of
each command's rule, spec/09_the_host_port.md section 9.6), read and written. spec/opcode_table.json gives its
rows no bits, so `decodeTableWord` answers none (log entry 17). -/

namespace Sys2Proof

/-- Two bytes as sent, high byte first. -/
def half (hi lo : Byte) : Half := hi ++ lo

/-- Three bytes as sent, high byte first. -/
def addr3 (hi mid lo : Byte) : Addr := hi ++ mid ++ lo

/-- The three bytes of a 24-bit field, high byte first. -/
def addrBytes (a : Addr) : List Byte :=
  [a.extractLsb' 16 8, a.extractLsb' 8 8, a.extractLsb' 0 8]

/-- The two bytes of a two-byte field, high byte first. -/
def halfBytes (h : Half) : List Byte := [hiByte h, loByte h]

/-- The number of parameter bytes that a command code fixes; none when the code names no command
(section 9.6; R171). -/
def paramCount (code : Byte) : Option Nat :=
  match code.toNat with
  | 0x10 => some 1
  | 0x11 => some 6
  | 0x12 => some 1
  | 0x13 => some 0
  | 0x14 => some 8
  | 0x15 => some 0
  | 0x16 => some 2
  | 0x17 => some 0
  | 0x18 => some 18
  | 0x19 => some 1
  | 0x20 => some 5
  | 0x21 => some 1
  | 0x22 => some 1
  | 0x23 => some 0
  | 0x24 => some 1
  | 0x30 => some 5
  | 0x31 => some 11
  | 0x32 => some 1
  | 0x33 => some 1
  | 0x34 => some 8
  | 0x35 => some 1
  | 0x36 => some 1
  | 0x37 => some 1
  | 0x38 => some 4
  | 0x40 => some 8
  | 0x41 => some 1
  | 0x42 => some 1
  | 0x43 => some 1
  | 0x50 => some 2
  | 0x51 => some 1
  | 0x52 => some 1
  | 0x53 => some 0
  | 0x54 => some 0
  | _ => none

/-- Commands 10h to 19h: the sensor link, the epoch clock and the profiles. -/
def decodeConfiguration (code : Nat) (ps : List Byte) : Option Instr :=
  match code, ps with
  | 0x10, [r] => some (.setLinkRate r)
  | 0x11, [v2, v1, v0, m2, m1, m0] => some (.setJoinFilter (addr3 v2 v1 v0) (addr3 m2 m1 m0))
  | 0x12, [i] => some (.setFeederId i)
  | 0x13, [] => some .readLinkCounters
  | 0x14, [s, p, g, h1, h0, w1, w0, m] => some (.setEpochClock s p g (half h1 h0) (half w1 w0) m)
  | 0x15, [] => some .readEpochClock
  | 0x16, [n1, n0] => some (.setEpochNumber (half n1 n0))
  | 0x17, [] => some .restartEvaluation
  | 0x18, [i, l1, l0, r1, r0, st, os, ot, m1, m0, u1, u0, ld, ls, lt, v1, v0, se] =>
    some (.loadProfile i (half l1 l0) (half r1 r0) st os ot (half m1 m0) (half u1 u0) ld ls lt (half v1 v0) se)
  | 0x19, [i] => some (.readProfile i)
  | _, _ => none

/-- Commands 20h to 24h: nodes and strangers. -/
def decodeNodes (code : Nat) (ps : List Byte) : Option Instr :=
  match code, ps with
  | 0x20, [n, a2, a1, a0, ph] => some (.bindNode n (addr3 a2 a1 a0) ph)
  | 0x21, [n] => some (.unbindNode n)
  | 0x22, [n] => some (.readNode n)
  | 0x23, [] => some .readStrangers
  | 0x24, [k] => some (.clearStranger k)
  | _, _ => none

/-- Commands 30h to 38h: sections. -/
def decodeSections (code : Nat) (ps : List Byte) : Option Instr :=
  match code, ps with
  | 0x30, [i, u, z, ph, pr] => some (.createSection i u z ph pr)
  | 0x31, [i, n1, n2, n3, n4, a1, a0, b1, b0, c1, c0] =>
    some (.editSection i n1 n2 n3 n4 (half a1 a0) (half b1 b0) (half c1 c0))
  | 0x32, [i] => some (.commitSection i)
  | 0x33, [i] => some (.recallSection i)
  | 0x34, [i, pr, a1, a0, b1, b0, c1, c0] =>
    some (.tuneSection i pr (half a1 a0) (half b1 b0) (half c1 c0))
  | 0x35, [i] => some (.acknowledgeSection i)
  | 0x36, [i] => some (.retireSection i)
  | 0x37, [i] => some (.readSection i)
  | 0x38, [st, f, cmp, k] => some (.scanSections st f cmp k)
  | _, _ => none

/-- Commands 40h to 43h (zones) and 50h to 54h (the device). -/
def decodeZonesDevice (code : Nat) (ps : List Byte) : Option Instr :=
  match code, ps with
  | 0x40, [z, h, te, ee, t1, t0, d, pol] => some (.setZone z h te ee (half t1 t0) d pol)
  | 0x41, [z] => some (.readZone z)
  | 0x42, [z] => some (.tripZone z)
  | 0x43, [z] => some (.releaseTrip z)
  | 0x50, [z, h] => some (.holdPermit z h)
  | 0x51, [m] => some (.clearAlerts m)
  | 0x52, [m] => some (.setAlertEnable m)
  | 0x53, [] => some .readDevice
  | 0x54, [] => some .senseOutcome
  | _, _ => none

/-- The command that a complete command buffer holds: the code byte, then as many parameter bytes as it
fixes. -/
def decodeCommand : List Byte → Option Instr
  | [] => none
  | code :: ps =>
    if code.toNat < 0x20 then decodeConfiguration code.toNat ps
    else if code.toNat < 0x30 then decodeNodes code.toNat ps
    else if code.toNat < 0x40 then decodeSections code.toNat ps
    else decodeZonesDevice code.toNat ps

/-- The bytes of a host command as the host writes them; none for a row that no command word carries. -/
def encodeCommand : Instr → Option (List Byte)
  | .setLinkRate r => some [0x10#8, r]
  | .setJoinFilter v m => some (0x11#8 :: (addrBytes v ++ addrBytes m))
  | .setFeederId i => some [0x12#8, i]
  | .readLinkCounters => some [0x13#8]
  | .setEpochClock s p g h w m => some (0x14#8 :: s :: p :: g :: (halfBytes h ++ halfBytes w ++ [m]))
  | .readEpochClock => some [0x15#8]
  | .setEpochNumber n => some (0x16#8 :: halfBytes n)
  | .restartEvaluation => some [0x17#8]
  | .loadProfile i ll orr st os ot lm lu ld ls lt rt se =>
    some (0x18#8 :: i :: (halfBytes ll ++ halfBytes orr ++ [st, os, ot] ++ halfBytes lm ++ halfBytes lu
      ++ [ld, ls, lt] ++ halfBytes rt ++ [se]))
  | .readProfile i => some [0x19#8, i]
  | .bindNode n a ph => some (0x20#8 :: n :: (addrBytes a ++ [ph]))
  | .unbindNode n => some [0x21#8, n]
  | .readNode n => some [0x22#8, n]
  | .readStrangers => some [0x23#8]
  | .clearStranger k => some [0x24#8, k]
  | .createSection i u z ph pr => some [0x30#8, i, u, z, ph, pr]
  | .editSection i n1 n2 n3 n4 ta tb tc =>
    some (0x31#8 :: i :: n1 :: n2 :: n3 :: n4 :: (halfBytes ta ++ halfBytes tb ++ halfBytes tc))
  | .commitSection i => some [0x32#8, i]
  | .recallSection i => some [0x33#8, i]
  | .tuneSection i pr ta tb tc => some (0x34#8 :: i :: pr :: (halfBytes ta ++ halfBytes tb ++ halfBytes tc))
  | .acknowledgeSection i => some [0x35#8, i]
  | .retireSection i => some [0x36#8, i]
  | .readSection i => some [0x37#8, i]
  | .scanSections st f cmp k => some [0x38#8, st, f, cmp, k]
  | .setZone z h te ee t d pol => some (0x40#8 :: z :: h :: te :: ee :: (halfBytes t ++ [d, pol]))
  | .readZone z => some [0x41#8, z]
  | .tripZone z => some [0x42#8, z]
  | .releaseTrip z => some [0x43#8, z]
  | .holdPermit z h => some [0x50#8, z, h]
  | .clearAlerts m => some [0x51#8, m]
  | .setAlertEnable m => some [0x52#8, m]
  | .readDevice => some [0x53#8]
  | .senseOutcome => some [0x54#8]
  | .powerOnReset _ => none
  | .rstNReset _ => none
  | .characterReceived _ _ _ => none
  | .gapTimerExpiry => none
  | .syncPulse _ => none
  | .syncTimerExpiry => none
  | .holdoverTick => none
  | .freeTick => none
  | .slotDeadline _ => none
  | .brkLevelChange _ _ _ => none
  | .debounceExpiry _ => none
  | .tripTimeout _ => none
  | .transactionStart _ => none
  | .accessByte _ => none
  | .codeByte _ => none
  | .parameterByte _ => none
  | .overrunByte _ => none
  | .resultByteRead => none
  | .statusByteRead => none
  | .transactionEnd => none
  | .startBit _ => none

/-- The command that a word spells by the table's bits: the table gives bits to no row. -/
def decodeTableWord (_nbits _w : Nat) : Option Instr := none

end Sys2Proof
end

