-- ==== Sys2Proof/Machine/Table.lean ====
section
/-! DEFINITION. Reading and writing the records of a table and the phases of a per-phase value. -/

namespace Sys2Proof

/-- The value of one phase. -/
def PerPhase.get {α : Type} (x : PerPhase α) : Phase → α
  | .a => x.a
  | .b => x.b
  | .c => x.c

/-- A per-phase value built phase by phase. -/
def PerPhase.ofFn {α : Type} (f : Phase → α) : PerPhase α := ⟨f .a, f .b, f .c⟩

/-- The same value on every phase. -/
def PerPhase.all {α : Type} (v : α) : PerPhase α := ⟨v, v, v⟩

/-- The three phases in the order A, B, C. -/
def allPhases : List Phase := [.a, .b, .c]

/-- The set holds no phase. -/
def PhaseSet.none : PhaseSet := PerPhase.all false

/-- The set holds every phase of `t`. -/
def PhaseSet.contains (s t : PhaseSet) : Bool := allPhases.all fun p => !t.get p || s.get p

/-- The number of phases in a set. -/
def PhaseSet.count (s : PhaseSet) : Nat := allPhases.countP fun p => s.get p

namespace Table

/-- The record at an index. -/
def get {α : Type} {n : Nat} (t : Table α n) (i : Fin n) : α :=
  t.cells[i.val]'(by rw [t.size_eq]; exact i.isLt)

/-- The table with one record replaced. -/
def set {α : Type} {n : Nat} (t : Table α n) (i : Fin n) (v : α) : Table α n :=
  ⟨t.cells.set i.val v, by rw [List.length_set]; exact t.size_eq⟩

/-- The same record at every index. -/
def replicate {α : Type} (n : Nat) (v : α) : Table α n :=
  ⟨List.replicate n v, List.length_replicate⟩

/-- Every record changed by a function of its index and itself. -/
def mapIdx {α : Type} {n : Nat} (f : Fin n → α → α) (t : Table α n) : Table α n :=
  ⟨(List.finRange n).map fun i => f i (t.get i), by simp⟩

/-- Some record, at its index, passes a test. -/
def any {α : Type} {n : Nat} (f : Fin n → α → Bool) (t : Table α n) : Bool :=
  (List.finRange n).any fun i => f i (t.get i)

end Table

end Sys2Proof
end

