-- ==== Sys2Proof/Machine/Records.lean ====
section
/-! DEFINITION. The records of the twelve blocks, as plain data. -/

namespace Sys2Proof.Machine

/-! ## Link Receiver (spec/03_the_sensor_link.md) -/

/-- The six link rates of R53, in the order of their rate codes 0..5. -/
inductive LinkRate where
  | baud19200 | baud38400 | baud57600 | baud115200 | baud230400 | baud460800
deriving DecidableEq, Repr

/-- The states of the frame receiver (R54). -/
inductive RxState where
  | hunt | sync1 | length | body | crcHigh | crcLow
deriving DecidableEq, Repr

/-- The nine link counters (R63), each 0..65535. -/
structure LinkCounters where
  crcErr      : Nat
  formatErr   : Nat
  gapAbort    : Nat
  unsupported : Nat
  foreign     : Nat
  unknown     : Nat
  late        : Nat
  early       : Nat
  duplicate   : Nat
deriving DecidableEq, Repr

/-- The Link Receiver (R52 to R67). -/
structure LinkReceiver where
  rate      : LinkRate
  rx        : RxState
  /-- The length byte of the frame in progress (R55). -/
  lenByte   : Byte
  /-- The body bytes received so far, in order (R54). -/
  body      : List Byte
  /-- The received CRC high byte (R54). -/
  crcHigh   : Byte
  /-- A start bit has been seen and the character's stop bit has not been sampled (R52). -/
  inChar    : Bool
  /-- The moment at which the last stop bit was sampled low: SL_RX must return high before a start bit is
  seen, and no falling edge of that moment shows that it has (R52; log entry 8). -/
  lowAt     : Option Moment
  /-- The moment from which the gap timer runs; none when it does not run (R57). -/
  gapFrom   : Option Moment
  counters  : LinkCounters
  /-- The part's feeder ID, 0..63 (R60, R65). -/
  feederId  : Nat
  amnesia   : Bool
  joinValue : Addr
  joinMask  : Addr
deriving DecidableEq, Repr

/-! ## Epoch Clock (spec/04_epochs_and_assembly.md) -/

inductive ClockSource where
  | external | internal
deriving DecidableEq, Repr

inductive LockState where
  | acquiring | locked | holdover | free
deriving DecidableEq, Repr

/-- The six settings of R69; times in milliseconds. -/
structure ClockSettings where
  source        : ClockSource
  period        : Nat
  grace         : Nat
  holdoverLimit : Nat
  window        : Nat
  missLimit     : Nat
deriving DecidableEq, Repr

/-- The Epoch Clock (R68). -/
structure EpochClock where
  /-- The current epoch: the number of the most recent tick. -/
  epoch     : Half
  lock      : LockState
  /-- The reference instant; none when no timer runs (R68). -/
  ref       : Option Moment
  /-- The period and grace that the running interval began with, in milliseconds (R70). -/
  runPeriod : Nat
  runGrace  : Nat
  holdover  : Nat
  syncLost  : Bool
  glitches  : Nat
  settings  : ClockSettings
deriving DecidableEq, Repr

/-! ## Epoch Assembler (spec/04_epochs_and_assembly.md) -/

/-- A stored report (R77): one node's measurements in one epoch, as admitted (R62). A phase that the
report does not carry holds 0, which no rule reads (log entry 21). -/
structure StoredReport where
  node    : NodeIx
  phases  : PhaseSet
  fault   : Bool
  motion  : Bool
  voltage : PerPhase Nat
  current : PerPhase Nat
deriving DecidableEq, Repr

/-- An open assembly slot (R77). -/
structure Slot where
  epoch    : Half
  deadline : Moment
  /-- The expected set, taken when the slot opened (R40). -/
  expected : List NodeIx
  /-- COMPLETE rather than GATHERING (R80). -/
  complete : Bool
  /-- One report for each node of the arrived set. -/
  reports  : List StoredReport
deriving DecidableEq, Repr

/-- A close as delivered (R83): the epoch number, the expected set, and the stored reports, whose nodes are
the arrived set. -/
structure Close where
  epoch    : Half
  expected : List NodeIx
  reports  : List StoredReport
deriving DecidableEq, Repr

/-- The work in hand on the closes delivered by one event of the Epoch Assembler (R83, R88, R89). -/
structure HeldWork where
  /-- The closes whose work is not done, in increasing epoch order; the first is the one being worked. -/
  closes  : List Close
  /-- The record that the work on the first close reaches next; none while the Node Table's work on that
  close is still to come (R83, R89). -/
  reach   : Option SecIx
deriving DecidableEq, Repr

/-! ## Node Table and Stranger Slots (spec/02_line_sensors_and_the_node_table.md) -/

inductive Health where
  | unheard | live | stale | faulty
deriving DecidableEq, Repr

/-- A node record (R33). -/
structure Node where
  bound     : Bool
  addr      : Addr
  phases    : PhaseSet
  health    : Health
  miss      : Nat
  refs      : Nat
  lastHeard : Option Half
deriving DecidableEq, Repr

/-- The contents of an occupied Stranger Slot (R48). -/
structure Sighting where
  addr      : Addr
  lastEpoch : Half
  phases    : PhaseSet
  count     : Nat
deriving DecidableEq, Repr

/-! ## Section Table (spec/01_section_records.md) -/

/-- The nine states of a section record (R1, R5), in the order of their codes (R26). -/
inductive SecState where
  | vacant | draft | settling | armed | suspect | confirmed | isolated | blind | dormant
deriving DecidableEq, Repr

inductive TripMark where
  | none | pending | withheld | failed
deriving DecidableEq, Repr

inductive CauseKind where
  | openLine | ground
deriving DecidableEq, Repr

structure Cause where
  kind  : CauseKind
  phase : Phase
deriving DecidableEq, Repr

/-- A section record (R2). -/
structure SectionRec where
  state        : SecState
  upstream     : NodeIx
  downstream   : List NodeIx
  zone         : ZoneIx
  phases       : PhaseSet
  profile      : ProfIx
  tap          : PerPhase Nat
  openScore    : PerPhase Nat
  leakScore    : PerPhase Nat
  settle       : Nat
  mark         : TripMark
  escalated    : Bool
  inconsistent : Bool
  cause        : Option Cause
  firstHit     : Option Half
  confirmEpoch : Option Half
deriving DecidableEq, Repr

/-! ## Profile Table (spec/06_profiles_and_hazard_levels.md) -/

/-- A threshold profile (R115). -/
structure Profile where
  liveLevel    : Nat
  openRatio    : Nat
  openStep     : Nat
  openSuspect  : Nat
  openTrip     : Nat
  leakMin      : Nat
  leakUnit     : Nat
  leakDecay    : Nat
  leakSuspect  : Nat
  leakTrip     : Nat
  reverseTol   : Nat
  settleEpochs : Nat
deriving DecidableEq, Repr

/-! ## Zone Controller (spec/07_protection_zones_and_trip_sequencing.md) -/

inductive Hazard where
  | normal | elevated | extreme
deriving DecidableEq, Repr

/-- Which level on BRK_z means an open breaker (R130). -/
inductive Polarity where
  | highOpen | lowOpen
deriving DecidableEq, Repr

inductive SeqState where
  | idle | tripping | hanging
deriving DecidableEq, Repr

inductive OutcomeKind where
  | opened | alreadyOpen | failed | lateOpen
deriving DecidableEq, Repr

/-- The contents of a full outcome latch (R152). -/
structure OutcomeRec where
  kind          : OutcomeKind
  sectionCauses : Bool
  manual        : Bool
  escalated     : Bool
  first         : Option SecIx
  count         : Nat
  overwritten   : Bool
deriving DecidableEq, Repr

/-- A running debounce interval: the pending level and the moment the interval ends (R133). -/
structure Debounce where
  level : Bool
  ends  : Moment
deriving DecidableEq, Repr

/-- A zone (R129). The debounced breaker state is `stable` read under `polarity` (log entry 14). -/
structure Zone where
  hazard           : Hazard
  tripEnable       : Bool
  escalationEnable : Bool
  tripTimeout      : Nat
  debounce         : Nat
  polarity         : Polarity
  /-- The level on BRK_z. -/
  pin              : Bool
  stable           : Bool
  interval         : Option Debounce
  seq              : SeqState
  causes           : List SecIx
  manual           : Bool
  /-- The moment at which the running trip timer expires. -/
  timer            : Option Moment
  latch            : Option OutcomeRec
  hold             : Bool
deriving DecidableEq, Repr

/-! ## Alert Unit (spec/08_reclose_permissive_and_alerts.md) -/

/-- The five sticky flags (R160); SECTION is `sect`. -/
structure StickyFlags where
  sect     : Bool
  node     : Bool
  stranger : Bool
  link     : Bool
  sync     : Bool
deriving DecidableEq, Repr

/-- The six enables (R162). -/
structure AlertEnables where
  sect     : Bool
  node     : Bool
  stranger : Bool
  link     : Bool
  sync     : Bool
  outcome  : Bool
deriving DecidableEq, Repr

structure AlertUnit where
  flags   : StickyFlags
  enables : AlertEnables
deriving DecidableEq, Repr

/-! ## Host Port (spec/09_the_host_port.md) -/

inductive PortState where
  | idle | collecting | executing | result
deriving DecidableEq, Repr

/-- What a transaction does, fixed by its access byte (R169). A READ transaction delivers result bytes
when its access byte completed in RESULT (R175), and 00h otherwise (R176). -/
inductive Transfer where
  | none | access | status | write | readResult | readNothing | ignored
deriving DecidableEq, Repr

/-- The Host Port (R168 to R179). -/
structure HostPort where
  state     : PortState
  /-- The command buffer: the code byte and the parameters so far. -/
  cmd       : List Byte
  result    : List Byte
  readPos   : Nat
  overrun   : Bool
  abandoned : Bool
  xfer      : Transfer
  csLow     : Bool
  /-- The byte on MISO, fixed when it began; none at high impedance (R168). -/
  miso      : Option Byte
  /-- The moment at which the byte that completed a command began the next byte on MISO, while the order of
  that beginning and the taking of the command is open (R173, R178; log entry 12). -/
  begun     : Option Moment
deriving DecidableEq, Repr

/-! ## The part -/

/-- Everything the spec gives the part, and the model's own clock and count of free choices (log entries
1 and 3). -/
structure Device where
  link       : LinkReceiver
  clock      : EpochClock
  /-- The open slots, oldest first; the others of the four are FREE (R77). -/
  slots      : List Slot
  /-- The closes delivered and not yet worked (R88). -/
  held       : HeldWork
  nodes      : Table Node 64
  strangers  : Table (Option Sighting) 3
  /-- The overwrite count of Stranger Slot 2 (R48). -/
  overwrites : Nat
  sections   : Table SectionRec 128
  profiles   : Table Profile 8
  zones      : Table Zone 4
  alerts     : AlertUnit
  port       : HostPort
  now        : Moment
  choices    : Nat
deriving DecidableEq, Repr

end Sys2Proof.Machine
end

