-- ==== Sys2Proof/Machine/ResetValues.lean ====
section
/-! DEFINITION. The value of each block right after a reset (R4, R34, R48, R52, R65, R68, R77, R116, R129,
R88, R160, R162, R170). -/

namespace Sys2Proof.Machine

/-- R33: the values of an unbound record. -/
def Node.unbound : Node :=
  { bound := false, addr := 0#24, phases := PhaseSet.none, health := .unheard, miss := 0, refs := 0,
    lastHeard := none }

/-- R2, R4: a VACANT record, every field zero, every optional field absent. -/
def SectionRec.vacant : SectionRec :=
  { state := .vacant, upstream := 0, downstream := [], zone := 0, phases := PhaseSet.none, profile := 0,
    tap := PerPhase.all 0, openScore := PerPhase.all 0, leakScore := PerPhase.all 0, settle := 0,
    mark := .none, escalated := false, inconsistent := false, cause := none, firstHit := none,
    confirmEpoch := none }

/-- R115: the defaults of a profile. -/
def Profile.default : Profile :=
  { liveLevel := 600, openRatio := 410, openStep := 4, openSuspect := 4, openTrip := 12, leakMin := 15,
    leakUnit := 5, leakDecay := 1, leakSuspect := 40, leakTrip := 120, reverseTol := 50,
    settleEpochs := 25 }

/-- R63, R64: all nine counters at 0. -/
def LinkCounters.zero : LinkCounters :=
  { crcErr := 0, formatErr := 0, gapAbort := 0, unsupported := 0, foreign := 0, unknown := 0, late := 0,
    early := 0, duplicate := 0 }

/-- R69: the default settings of the Epoch Clock. -/
def ClockSettings.default : ClockSettings :=
  { source := .external, period := 20, grace := 5, holdoverLimit := 3000, window := 50, missLimit := 5 }

/-- R65: the number of the seven identity pins that read high. -/
def resetHighPins (pins : ResetPins) : Nat :=
  (List.range 6).countP (fun k => pins.fid.getLsbD k) + (if pins.fidPar then 1 else 0)

/-- R65: the straps give a usable identity when an odd number of the seven pins read high and the strap
value is not 63. -/
def resetIdentityGood (pins : ResetPins) : Bool :=
  resetHighPins pins % 2 == 1 && pins.fid.toNat != Config.amnesiaId

/-- R52, R61, R63, R65. The buffers of a frame in progress have no stated value: DESIGN CHOICE, log entry
15. -/
def LinkReceiver.afterReset (pins : ResetPins) : LinkReceiver :=
  { rate := .baud115200, rx := .hunt, lenByte := 0#8, body := [], crcHigh := 0#8, inChar := false,
    lowAt := none, gapFrom := none, counters := LinkCounters.zero,
    feederId := if resetIdentityGood pins then pins.fid.toNat else Config.amnesiaId,
    amnesia := !(resetIdentityGood pins), joinValue := 0#24, joinMask := 0#24 }

/-- R68, R69. No interval runs, so the period and grace of one are the defaults: DESIGN CHOICE, log entry
15. -/
def EpochClock.afterReset : EpochClock :=
  { epoch := 0#16, lock := .acquiring, ref := none, runPeriod := 20, runGrace := 5, holdover := 0,
    syncLost := false, glitches := 0, settings := ClockSettings.default }

/-- R129: a zone whose BRK line stands at `level` at the end of reset. -/
def Zone.afterReset (level : Bool) : Zone :=
  { hazard := .normal, tripEnable := true, escalationEnable := true, tripTimeout := 200, debounce := 4,
    polarity := .highOpen, pin := level, stable := level, interval := none, seq := .idle, causes := [],
    manual := false, timer := none, latch := none, hold := true }

/-- R160, R162: every sticky flag clear, every enable on. -/
def AlertUnit.afterReset : AlertUnit :=
  { flags := { sect := false, node := false, stranger := false, link := false, sync := false },
    enables := ⟨true, true, true, true, true, true⟩ }

/-- R170, R177. When CS_N is already low the port waits for it to rise: no transaction is in hand. -/
def HostPort.afterReset (csLow : Bool) : HostPort :=
  { state := .idle, cmd := [], result := [], readPos := 0, overrun := false, abandoned := false,
    xfer := .none, csLow := csLow, miso := none, begun := none }

/-- No close is held and none is being worked: R88 at a reset, and the rest that every piece of work ends
in. -/
def HeldWork.empty : HeldWork := { closes := [], reach := none }

/-- The part at the end of a reset, with the Profile Table and the model's own fields given. -/
def Device.afterReset (pins : ResetPins) (profiles : Table Profile 8) (now choices : Nat) : Device :=
  { link := LinkReceiver.afterReset pins
    clock := EpochClock.afterReset
    slots := []
    held := HeldWork.empty
    nodes := Table.replicate 64 Node.unbound
    strangers := Table.replicate 3 none
    overwrites := 0
    sections := Table.replicate 128 SectionRec.vacant
    profiles := profiles
    zones := Table.mapIdx (fun z _ => Zone.afterReset (pins.brk.getLsbD z.val))
      (Table.replicate 4 (Zone.afterReset false))
    alerts := AlertUnit.afterReset
    port := HostPort.afterReset pins.csLow
    now := now
    choices := choices }

/-- The levels that State.reset takes the pins to stand at: straps reading 17 with good parity, as in
section 10.1, every BRK line low, CS_N high. DESIGN CHOICE, log entry 10. -/
def assumedPins : ResetPins :=
  { fid := 17#6, fidPar := true, brk := 0#4, csLow := false }

end Sys2Proof.Machine
end

