-- ==== Sys2Proof/Machine/State.lean ====
section
/-! DEFINITION. The state of the model: the part and the queue of commands that wait for it; the reasons a
step could stop; the machine right after power-on reset. -/

namespace Sys2Proof.Machine

/-- Reasons for which the part stops. The spec describes none (log entry 20), so there is no constructor
and no command raises one: safe. -/
inductive Fault where
deriving DecidableEq, Repr

/-- Reasons for which the model gives a command no meaning. -/
inductive Refusal where
  /-- Raised by an arm of `exec` whose command has no meaning yet; no arm is left so. Safe: nothing can be
  proved of what the command does. -/
  | notModelled (mnemonic : String)
deriving DecidableEq, Repr

/-- The machine: the part, and the commands that wait, first in, first out. -/
structure State where
  device  : Device
  pending : List Instr
deriving DecidableEq, Repr

/-- The machine right after power-on reset (R4, R34, R48, R52, R65, R68, R77, R116, R129, R160, R162,
R170), with the pins at the assumed levels and nothing waiting. -/
def State.reset : State :=
  { device := Device.afterReset assumedPins (Table.replicate 8 Profile.default) 0 0
    pending := [] }

/-- The next state in which a command has changed the part and left the queue alone. -/
def State.run (s : State) (f : Device → Device) : Host.Outcome State Fault Refusal :=
  .next { s with device := f s.device }

end Sys2Proof.Machine
end

