-- ==== Sys2Proof/Machine/Operands.lean ====
section
/-! DEFINITION. The forms of command parameters and of result bytes (R12, R180, R182), and the codes of
the values that commands and results carry. -/

namespace Sys2Proof.Machine

/-! ## Parameters -/

/-- An index parameter of one byte: in range when below `n` (R12). -/
def indexParam (n : Nat) (b : Byte) : Option (Fin n) :=
  if h : b.toNat < n then some ⟨b.toNat, h⟩ else none

/-- A downstream node field of EDIT SECTION: 0..63 names a node, 255 means "no node", any other value is
out of range (R12, R16). -/
def nodeField (b : Byte) : Option (Option NodeIx) :=
  if b = 255#8 then some none else (indexParam 64 b).map some

/-- A phase set parameter: at least one phase and nothing beyond the three phase bits (R182). -/
def phaseSetParam (b : Byte) : Option PhaseSet :=
  if b = 0#8 ∨ 7 < b.toNat then none
  else some ⟨b.getLsbD 0, b.getLsbD 1, b.getLsbD 2⟩

/-- A flag parameter: 00h and 01h alone (R182). -/
def flagParam (b : Byte) : Option Bool :=
  if b = 0#8 then some false else if b = 1#8 then some true else none

/-- The value brought into a range. -/
def clamp (lo hi n : Nat) : Nat := min hi (max lo n)

/-- Hazard codes of SET ZONE (R130). -/
def hazardParam (b : Byte) : Option Hazard :=
  if b = 0#8 then some .normal else if b = 1#8 then some .elevated
  else if b = 2#8 then some .extreme else none

/-- Polarity codes of SET ZONE (R130). -/
def polarityParam (b : Byte) : Option Polarity :=
  if b = 0#8 then some .highOpen else if b = 1#8 then some .lowOpen else none

/-- Source codes of SET EPOCH CLOCK (R69). -/
def sourceParam (b : Byte) : Option ClockSource :=
  if b = 0#8 then some .external else if b = 1#8 then some .internal else none

/-- Rate codes of SET LINK RATE (R53). -/
def rateParam (b : Byte) : Option LinkRate :=
  match b.toNat with
  | 0 => some .baud19200
  | 1 => some .baud38400
  | 2 => some .baud57600
  | 3 => some .baud115200
  | 4 => some .baud230400
  | 5 => some .baud460800
  | _ => none

/-- Fields of SCAN SECTIONS (R27). -/
inductive ScanField where
  | state | zone | upstream | anyNode | maxOpen | maxLeak
deriving DecidableEq, Repr

def scanFieldParam (b : Byte) : Option ScanField :=
  match b.toNat with
  | 0 => some .state
  | 1 => some .zone
  | 2 => some .upstream
  | 3 => some .anyNode
  | 4 => some .maxOpen
  | 5 => some .maxLeak
  | _ => none

/-- Comparisons of SCAN SECTIONS (R27). -/
inductive ScanCompare where
  | equal | atMost | atLeast
deriving DecidableEq, Repr

def scanCompareParam (b : Byte) : Option ScanCompare :=
  match b.toNat with
  | 0 => some .equal
  | 1 => some .atMost
  | 2 => some .atLeast
  | _ => none

/-! ## Result bytes -/

/-- The result codes (R180). -/
inductive ResultCode where
  | ok | clamped | none | unknownCommand | badIndex | badState | inUse | badTopology | notReady
  | duplicateAddress | badValue | busy
deriving DecidableEq, Repr

def ResultCode.byte : ResultCode → Byte
  | .ok => 0x00#8
  | .clamped => 0x01#8
  | .none => 0x02#8
  | .unknownCommand => 0x80#8
  | .badIndex => 0x81#8
  | .badState => 0x82#8
  | .inUse => 0x83#8
  | .badTopology => 0x84#8
  | .notReady => 0x85#8
  | .duplicateAddress => 0x86#8
  | .badValue => 0x87#8
  | .busy => 0x88#8

/-- A number as one result byte. -/
def natByte (n : Nat) : Byte := BitVec.ofNat 8 n

/-- A number as a two-byte result field, high byte first. -/
def natHalf (n : Nat) : List Byte := halfBytes (BitVec.ofNat 16 n)

/-- A marker or flag byte (R182). -/
def flagByte (b : Bool) : Byte := if b then 1#8 else 0#8

/-- A byte from its bits, bit 7 first. -/
def bits8 (b7 b6 b5 b4 b3 b2 b1 b0 : Bool) : Byte :=
  BitVec.cons b7 (BitVec.cons b6 (BitVec.cons b5 (BitVec.cons b4
    (BitVec.cons b3 (BitVec.cons b2 (BitVec.cons b1 (BitVec.cons b0 BitVec.nil)))))))

/-- The coding of a phase set (R182). -/
def phaseSetByte (s : PhaseSet) : Byte := bits8 false false false false false s.c s.b s.a

/-- An optional epoch as its two bytes, 0 when absent (R25, R38, R185). -/
def epochBytes (e : Option Half) : List Byte := halfBytes (e.getD 0#16)

/-- The number coded by a phase (R185). -/
def Phase.code : Phase → Nat
  | .a => 0
  | .b => 1
  | .c => 2

/-- Rate codes as READ LINK COUNTERS returns them (R53, R64). -/
def LinkRate.code : LinkRate → Byte
  | .baud19200 => 0#8
  | .baud38400 => 1#8
  | .baud57600 => 2#8
  | .baud115200 => 3#8
  | .baud230400 => 4#8
  | .baud460800 => 5#8

/-- State codes (R26). -/
def SecState.code : SecState → Nat
  | .vacant => 0
  | .draft => 1
  | .settling => 2
  | .armed => 3
  | .suspect => 4
  | .confirmed => 5
  | .isolated => 6
  | .blind => 7
  | .dormant => 8

/-- Trip mark codes (R26). -/
def TripMark.code : TripMark → Nat
  | .none => 0
  | .pending => 1
  | .withheld => 2
  | .failed => 3

/-- Health codes (R38). -/
def Health.code : Health → Byte
  | .unheard => 0#8
  | .live => 1#8
  | .stale => 2#8
  | .faulty => 3#8

/-- Lock state codes (R76). -/
def LockState.code : LockState → Byte
  | .acquiring => 0#8
  | .locked => 1#8
  | .holdover => 2#8
  | .free => 3#8

/-- Source codes (R76). -/
def ClockSource.code : ClockSource → Byte
  | .external => 0#8
  | .internal => 1#8

/-- Hazard codes (R130). -/
def Hazard.code : Hazard → Byte
  | .normal => 0#8
  | .elevated => 1#8
  | .extreme => 2#8

/-- Polarity codes (R130). -/
def Polarity.code : Polarity → Byte
  | .highOpen => 0#8
  | .lowOpen => 1#8

/-- Sequencer state codes (R132). -/
def SeqState.code : SeqState → Byte
  | .idle => 0#8
  | .tripping => 1#8
  | .hanging => 2#8

/-- Outcome codes (R154). -/
def OutcomeKind.code : OutcomeKind → Byte
  | .opened => 0#8
  | .alreadyOpen => 1#8
  | .failed => 2#8
  | .lateOpen => 3#8

end Sys2Proof.Machine
end

