-- ==== Sys2Proof/Machine/Flags.lean ====
section
/-! DEFINITION. The conditions and lines that hold no state of their own: zone energization (R135), the
blocking test and the permissives (R155, R156), TRIP lines (R139), the OUTCOME flag, ALERT and ALERT_N
(R161, R162), the status byte (R178, R184). -/

namespace Sys2Proof.Machine

/-- R133: the debounced breaker state, the stable level read under the polarity; true for OPEN. -/
def Zone.isOpen (z : Zone) : Bool :=
  match z.polarity with
  | .highOpen => z.stable
  | .lowOpen => !z.stable

/-- R135: zone z and, for zones 1 to 3, its parent zone 0 are CLOSED. -/
def Device.energized (p : Device) (z : ZoneIx) : Bool :=
  !(p.zones.get z).isOpen && !(p.zones.get 0).isOpen

/-- R125, R156: whether a record, its own zone standing at the given hazard level, blocks. -/
def SectionRec.blocks (hazard : Hazard) (r : SectionRec) : Bool :=
  match r.state with
  | .suspect => true
  | .confirmed => true
  | .isolated => true
  | .blind => hazard == .extreme
  | .vacant => false
  | .draft => false
  | .settling => false
  | .armed => false
  | .dormant => false

/-- R156: whether record `i` blocks. -/
def Device.blocks (p : Device) (i : SecIx) : Bool :=
  (p.sections.get i).blocks (p.zones.get (p.sections.get i).zone).hazard

/-- R156: whether record `i` stands in the scope of zone `z`. -/
def Device.inScope (p : Device) (z : ZoneIx) (i : SecIx) : Bool :=
  z == 0 || (p.sections.get i).zone == z

/-- R155: every sequencer that gates PERMIT_z is IDLE. -/
def Device.gateIdle (p : Device) (z : ZoneIx) : Bool :=
  if z = 0 then !(p.zones.any fun _ y => y.seq != .idle) else (p.zones.get z).seq == .idle

/-- R155: the level of PERMIT_z. -/
def Device.permit (p : Device) (z : ZoneIx) : Bool :=
  p.gateIdle z && !(p.zones.get z).hold && !(p.sections.any fun i _ => p.inScope z i && p.blocks i)

/-- R139: the level of TRIP_z. -/
def Device.trip (p : Device) (z : ZoneIx) : Bool := (p.zones.get z).seq != .idle

/-- R161: the OUTCOME flag: at least one outcome latch is full. -/
def Device.outcomeFlag (p : Device) : Bool := p.zones.any fun _ y => y.latch.isSome

/-- R162: some flag is set whose enable is on. -/
def Device.alert (p : Device) : Bool :=
  (p.alerts.flags.sect && p.alerts.enables.sect) || (p.alerts.flags.node && p.alerts.enables.node)
    || (p.alerts.flags.stranger && p.alerts.enables.stranger)
    || (p.alerts.flags.link && p.alerts.enables.link) || (p.alerts.flags.sync && p.alerts.enables.sync)
    || (p.outcomeFlag && p.alerts.enables.outcome)

/-- R162: the level of ALERT_N: low exactly while ALERT stands. -/
def Device.alertN (p : Device) : Bool := !p.alert

/-- R178: READY, DIRECTION and BUSY of each port state. -/
def PortState.ready : PortState → Bool
  | .idle => true
  | .collecting => true
  | .executing => false
  | .result => true

def PortState.direction : PortState → Bool
  | .result => true
  | .idle => false
  | .collecting => false
  | .executing => false

def PortState.busy : PortState → Bool
  | .idle => false
  | .collecting => true
  | .executing => true
  | .result => true

/-- R178, R184: the status byte. -/
def Device.statusByte (p : Device) : Byte :=
  bits8 p.port.state.ready p.port.state.direction p.port.state.busy p.alert p.outcomeFlag p.link.amnesia
    p.port.overrun p.port.abandoned

/-! ## Setting the sticky flags (R160) -/

def Device.setSectionFlag (p : Device) : Device :=
  { p with alerts := { p.alerts with flags := { p.alerts.flags with sect := true } } }

def Device.setNodeFlag (p : Device) : Device :=
  { p with alerts := { p.alerts with flags := { p.alerts.flags with node := true } } }

def Device.setStrangerFlag (p : Device) : Device :=
  { p with alerts := { p.alerts with flags := { p.alerts.flags with stranger := true } } }

def Device.setLinkFlag (p : Device) : Device :=
  { p with alerts := { p.alerts with flags := { p.alerts.flags with link := true } } }

def Device.setSyncFlag (p : Device) : Device :=
  { p with alerts := { p.alerts with flags := { p.alerts.flags with sync := true } } }

/-- R163, R165: the flags that stand, OUTCOME among them, by their mark values. -/
def Device.flagsByte (p : Device) : Byte :=
  bits8 false false p.outcomeFlag p.alerts.flags.sync p.alerts.flags.link p.alerts.flags.stranger
    p.alerts.flags.node p.alerts.flags.sect

/-- R163, R165: the enables, by their mark values. -/
def AlertEnables.byte (e : AlertEnables) : Byte :=
  bits8 false false e.outcome e.sync e.link e.stranger e.node e.sect

end Sys2Proof.Machine
end

