-- ==== Sys2Proof/Machine/Ops.lean ====
section
/-! DEFINITION. The operations that several commands share: lengths of time, writing one record, the
entries of a section record into its states (R6, R7), the placement test (R8), and handing a command's
result to the Host Port (R173). -/

namespace Sys2Proof.Machine

/-! ## Time (log entry 1) -/

/-- Milliseconds as a length of time. -/
def ms (n : Nat) : Nat := n * Config.cyclesPerMs

/-! ## Writing one record -/

def Device.setSection (p : Device) (i : SecIx) (r : SectionRec) : Device :=
  { p with sections := p.sections.set i r }

def Device.setNode (p : Device) (n : NodeIx) (r : Node) : Device :=
  { p with nodes := p.nodes.set n r }

def Device.setZone (p : Device) (z : ZoneIx) (r : Zone) : Device :=
  { p with zones := p.zones.set z r }

/-- Every section record changed by a function of its index and itself. -/
def Device.mapSections (p : Device) (f : SecIx → SectionRec → SectionRec) : Device :=
  { p with sections := p.sections.mapIdx f }

/-! ## A section record and its states -/

/-- The nodes a record names, upstream first. -/
def SectionRec.nodes (r : SectionRec) : List NodeIx := r.upstream :: r.downstream

/-- R6: the scores zeroed and the first-hit epoch made absent. -/
def SectionRec.zeroScores (r : SectionRec) : SectionRec :=
  { r with openScore := PerPhase.all 0, leakScore := PerPhase.all 0, firstHit := none }

/-- R6, R19: entry to DRAFT. -/
def SectionRec.enterDraft (r : SectionRec) : SectionRec :=
  { r.zeroScores with state := .draft, settle := 0 }

/-- R6: entry to DORMANT. -/
def SectionRec.enterDormant (r : SectionRec) : SectionRec :=
  { r.zeroScores with state := .dormant, settle := 0 }

/-- R6: entry to BLIND; the SECTION flag is set by the entry's caller (R8). -/
def SectionRec.enterBlind (r : SectionRec) : SectionRec :=
  { r.zeroScores with state := .blind, settle := 0 }

/-- R6, R7: entry to SETTLING under the profile the record names, or on at once to ARMED when that profile
loads 0. -/
def SectionRec.enterSettling (prof : Profile) (r : SectionRec) : SectionRec :=
  { r.zeroScores with
    state := if prof.settleEpochs = 0 then .armed else .settling
    settle := prof.settleEpochs }

/-- R3, R145, R148: the move to ISOLATED with trip mark NONE. -/
def SectionRec.isolate (r : SectionRec) : SectionRec :=
  { r with state := .isolated, mark := .none, settle := 0 }

/-- R8, R44: a node that sends the records naming it to BLIND. -/
def Health.bad : Health → Bool
  | .stale => true
  | .faulty => true
  | .unheard => false
  | .live => false

/-- R8, R44: some node the record names is STALE or FAULTY. -/
def Device.namesBadNode (p : Device) (r : SectionRec) : Bool :=
  r.nodes.any fun n => (p.nodes.get n).health.bad

/-- The profile a record names. -/
def Device.profileOf (p : Device) (r : SectionRec) : Profile := p.profiles.get r.profile

/-- R8, R137: the last two steps of the placement test: BLIND, setting SECTION, when a named node is STALE
or FAULTY, and SETTLING otherwise. -/
def Device.placeEnergized (p : Device) (i : SecIx) (r : SectionRec) : Device :=
  if p.namesBadNode r then (p.setSection i r.enterBlind).setSectionFlag
  else p.setSection i (r.enterSettling (p.profileOf r))

/-- R8: the placement test, applied to record `i` standing as `r`. -/
def Device.place (p : Device) (i : SecIx) (r : SectionRec) : Device :=
  if p.energized r.zone then p.placeEnergized i r else p.setSection i r.enterDormant

/-! ## Taking a host command (R173) -/

/-- What an owning block answers: the part as it leaves it, and the bytes of the result. -/
abbrev Answer := Device × List Byte

/-- R180: a refused command changes nothing and returns its code alone. -/
def Device.refuse (p : Device) (c : ResultCode) : Answer := (p, [c.byte])

/-- A command accepted with its code alone. -/
def Device.accept (p : Device) (c : ResultCode) : Answer := (p, [c.byte])

/-- R173: the owning block has taken the command; its whole result stands in the result buffer and the
port goes to RESULT with the read position at the first byte. -/
def HostPort.giveResult (h : HostPort) (bytes : List Byte) : HostPort :=
  { h with state := .result, cmd := [], result := bytes, readPos := 0, begun := none }

/-- R173, R178: a command has been taken at the very moment at which a byte on MISO began. Whether that byte
is fixed after the taking is the free value of log entry 12; if so it is the status byte as it now stands. -/
def Device.settleStatus (p : Device) : Device :=
  { p with
    choices := p.choices + 1
    port := { p.port with
      miso := if Config.promptTaking p.choices then some p.statusByte else p.port.miso } }

/-- R173: the part once a command has been taken and answered. -/
def Device.taken (a : Answer) : Device :=
  let q : Device := { a.1 with port := a.1.port.giveResult a.2 }
  if a.1.port.begun = some a.1.now then q.settleStatus else q

/-- CLAMPED when a written value was clamped, else OK (R180). -/
def okOrClamped (clamped : Bool) : ResultCode := if clamped then .clamped else .ok

end Sys2Proof.Machine
end

