-- ==== Sys2Proof/Machine/Alerts.lean ====
section
/-! DEFINITION. The commands of the Alert Unit, 51h to 53h (spec/08_reclose_permissive_and_alerts.md). -/

namespace Sys2Proof.Machine

/-- R163, R164: a mask carries no mark beyond the six. -/
def maskGood (mask : Byte) : Bool := !mask.getLsbD 6 && !mask.getLsbD 7

/-- R163: the sticky flags that the mask names cleared; the OUTCOME mark has no effect. -/
def StickyFlags.clear (mask : Byte) (f : StickyFlags) : StickyFlags :=
  { sect := f.sect && !mask.getLsbD 0
    node := f.node && !mask.getLsbD 1
    stranger := f.stranger && !mask.getLsbD 2
    link := f.link && !mask.getLsbD 3
    sync := f.sync && !mask.getLsbD 4 }

/-- R163: CLEAR ALERTS. -/
def Device.clearAlerts (mask : Byte) (p : Device) : Answer :=
  if maskGood mask then
    Device.accept { p with alerts := { p.alerts with flags := p.alerts.flags.clear mask } } .ok
  else p.refuse .badValue

/-- R164: the enables that a mask writes. -/
def AlertEnables.ofMask (mask : Byte) : AlertEnables :=
  { sect := mask.getLsbD 0
    node := mask.getLsbD 1
    stranger := mask.getLsbD 2
    link := mask.getLsbD 3
    sync := mask.getLsbD 4
    outcome := mask.getLsbD 5 }

/-- R164: SET ALERT ENABLE. -/
def Device.setAlertEnable (mask : Byte) (p : Device) : Answer :=
  if maskGood mask then
    Device.accept { p with alerts := { p.alerts with enables := AlertEnables.ofMask mask } } .ok
  else p.refuse .badValue

/-- R165: READ DEVICE. -/
def Device.readDevice (p : Device) : Answer :=
  let c := p.clock
  (p, [ResultCode.ok.byte, Config.partRevision, natByte p.link.feederId, flagByte p.link.amnesia]
    ++ halfBytes c.epoch ++ [c.lock.code] ++ natHalf c.holdover ++ [flagByte c.syncLost]
    ++ natHalf c.glitches ++ [natByte p.slots.length, p.flagsByte, p.alerts.enables.byte]
    ++ (List.finRange 4).map (fun z => flagByte (p.permit z))
    ++ (List.finRange 4).map (fun z => (p.zones.get z).seq.code))

/-- CLEAR_ALERTS (R163). -/
def execClearAlerts (mask : Byte) (s : State) : Host.Outcome State Fault Refusal :=
  s.run fun p => Device.taken (p.clearAlerts mask)

/-- SET_ALERT_ENABLE (R164). -/
def execSetAlertEnable (mask : Byte) (s : State) : Host.Outcome State Fault Refusal :=
  s.run fun p => Device.taken (p.setAlertEnable mask)

/-- READ_DEVICE (R165). -/
def execReadDevice (s : State) : Host.Outcome State Fault Refusal :=
  s.run fun p => Device.taken p.readDevice

end Sys2Proof.Machine
end

