-- ==== Sys2Proof/Machine/Trip.lean ====
section
/-! DEFINITION. Trips and breaker edges (spec/07_protection_zones_and_trip_sequencing.md): outcome latches,
trip requests and escalation, the ends of a trip, edges. -/

namespace Sys2Proof.Machine

/-- R153: an outcome fills zone z's latch; into a full latch it replaces the contents and sets the
overwritten flag. -/
def Device.latchOutcome (p : Device) (z : ZoneIx) (o : OutcomeRec) : Device :=
  p.setZone z { p.zones.get z with
    latch := some { o with overwritten := (p.zones.get z).latch.isSome } }

/-- R139, R141: the sequencer enters TRIPPING with the given cause list; the trip timer is started with
the trip timeout now standing. -/
def Zone.startTrip (z : Zone) (now : Moment) (causes : List SecIx) (manual : Bool) : Zone :=
  { z with seq := .tripping, causes := causes, manual := manual, timer := some (now + ms z.tripTimeout) }

/-- R139, R145, R148, R149: the return to IDLE. -/
def Zone.endTrip (z : Zone) : Zone :=
  { z with seq := .idle, causes := [], manual := false, timer := none }

/-- R146, R147: a timed-out sequencer enters HANGING, its list emptied and its MANUAL marker kept. -/
def Zone.hang (z : Zone) : Zone := { z with seq := .hanging, causes := [], timer := none }

/-- Trip marks written by the Zone Controller (R31). -/
def SectionRec.withMark (m : TripMark) (r : SectionRec) : SectionRec := { r with mark := m }

/-- R142: a record that joins zone 0's list, escalated. -/
def SectionRec.joinEscalated (r : SectionRec) : SectionRec :=
  { r with mark := .pending, escalated := true }

/-- R142: a record isolated by zone 0's already open breaker. -/
def SectionRec.isolateEscalated (r : SectionRec) : SectionRec :=
  { r.isolate with escalated := true }

/-- The listed records changed by a function. -/
def Device.mapListed (p : Device) (l : List SecIx) (f : SectionRec → SectionRec) : Device :=
  p.mapSections fun i r => if i ∈ l then f r else r

/-- R152: the contents of the outcome of one or more sections. -/
def sectionOutcome (kind : OutcomeKind) (manual escalated : Bool) (l : List SecIx) : OutcomeRec :=
  { kind := kind, sectionCauses := !l.isEmpty, manual := manual, escalated := escalated, first := l.head?,
    count := l.length, overwritten := false }

/-- R142: zone 0 can take escalated causes: it is not HANGING and its trip enable is on. -/
def Device.zone0Takes (p : Device) : Bool :=
  (p.zones.get 0).seq != .hanging && (p.zones.get 0).tripEnable

/-- R142: sections sent to zone 0 together, in the order they come. -/
def Device.escalate (p : Device) (l : List SecIx) : Device :=
  if p.zone0Takes then
    match (p.zones.get 0).seq with
    | .tripping =>
      (p.mapListed l SectionRec.joinEscalated).setZone 0
        { p.zones.get 0 with causes := (p.zones.get 0).causes ++ l }
    | .idle =>
      if (p.zones.get 0).isOpen then
        (p.mapListed l SectionRec.isolateEscalated).latchOutcome 0
          (sectionOutcome .alreadyOpen false true l)
      else
        (p.mapListed l SectionRec.joinEscalated).setZone 0 ((p.zones.get 0).startTrip p.now l false)
    | .hanging => p.mapListed l (SectionRec.withMark .failed)
  else p.mapListed l (SectionRec.withMark .failed)

/-- R141: the answer to record `i`'s trip request of its zone. -/
def Device.tripRequest (p : Device) (i : SecIx) : Device :=
  let r := p.sections.get i
  let z := p.zones.get r.zone
  if z.tripEnable then
    match z.seq with
    | .idle =>
      if z.isOpen then
        (p.setSection i r.isolate).latchOutcome r.zone (sectionOutcome .alreadyOpen false false [i])
      else (p.setSection i (r.withMark .pending)).setZone r.zone (z.startTrip p.now [i] z.manual)
    | .tripping =>
      (p.setSection i (r.withMark .pending)).setZone r.zone { z with causes := z.causes ++ [i] }
    | .hanging =>
      if r.zone ≠ 0 ∧ z.escalationEnable then p.escalate [i]
      else p.setSection i (r.withMark .failed)
  else p.setSection i (r.withMark .withheld)

/-- R140: the trip zone of a CONFIRMED record. -/
def SectionRec.tripZone (r : SectionRec) : ZoneIx := if r.escalated then 0 else r.zone

/-- Some record of a list carries the escalated flag. -/
def Device.anyEscalated (p : Device) (l : List SecIx) : Bool := l.any fun i => (p.sections.get i).escalated

/-! ## Edges -/

/-- R136: an open edge of zone z reaches the records of zone z, and those of every zone when z is 0. -/
def edgeReaches (z : ZoneIx) (r : SectionRec) : Bool := z == 0 || r.zone == z

/-- R136: the records that an open edge sends to DORMANT. -/
def SectionRec.openEdge (z : ZoneIx) (r : SectionRec) : SectionRec :=
  if edgeReaches z r then
    match r.state with
    | .armed => r.enterDormant
    | .settling => r.enterDormant
    | .blind => r.enterDormant
    | .vacant => r
    | .draft => r
    | .suspect => r
    | .confirmed => r
    | .isolated => r
    | .dormant => r
  else r

/-- R145: an open edge of a TRIPPING zone ends the trip with OPENED. -/
def Device.endOpened (p : Device) (z : ZoneIx) : Device :=
  let y := p.zones.get z
  let q := (p.mapListed y.causes SectionRec.isolate).latchOutcome z
    (sectionOutcome .opened y.manual (p.anyEscalated y.causes) y.causes)
  q.setZone z (q.zones.get z).endTrip

/-- R148: the CONFIRMED records with mark FAILED whose trip zone is z, in ascending index. -/
def Device.failedIn (p : Device) (z : ZoneIx) : List SecIx :=
  (List.finRange 128).filter fun i =>
    (p.sections.get i).state == .confirmed && (p.sections.get i).mark == .failed
      && (p.sections.get i).tripZone == z

/-- R148: an open edge of a HANGING zone ends the trip with LATE_OPEN. -/
def Device.endLateOpen (p : Device) (z : ZoneIx) : Device :=
  let y := p.zones.get z
  let l := p.failedIn z
  let q := (p.mapListed l SectionRec.isolate).latchOutcome z
    (sectionOutcome .lateOpen y.manual (p.anyEscalated l) l)
  q.setZone z (q.zones.get z).endTrip

/-- R136, R145, R148: an open edge of zone z. -/
def Device.openEdge (p : Device) (z : ZoneIx) : Device :=
  let q := p.mapSections fun _ r => r.openEdge z
  match (q.zones.get z).seq with
  | .idle => q
  | .tripping => q.endOpened z
  | .hanging => q.endLateOpen z

/-- R137: a close edge's work on record `i`: a DORMANT record that the edge concerns and whose zone is now
energized goes to BLIND or to SETTLING. -/
def Device.closeEdgeRecord (z : ZoneIx) (p : Device) (i : SecIx) : Device :=
  if (p.sections.get i).state = .dormant ∧ edgeReaches z (p.sections.get i)
      ∧ p.energized (p.sections.get i).zone then
    p.placeEnergized i (p.sections.get i)
  else p

/-- R137: a close edge of zone z. -/
def Device.closeEdge (p : Device) (z : ZoneIx) : Device :=
  (List.finRange 128).foldl (Device.closeEdgeRecord z) p

/-- R133, R134: what follows a change that left zone z's breaker, `wasOpen` before it, in the state it now
has: an open edge, a close edge, or no edge. -/
def Device.afterBreaker (p : Device) (z : ZoneIx) (wasOpen : Bool) : Device :=
  if (p.zones.get z).isOpen = wasOpen then p
  else if (p.zones.get z).isOpen then p.openEdge z else p.closeEdge z

/-- R133: a level becomes the stable level of zone z's breaker input. -/
def Device.becomeStable (p : Device) (z : ZoneIx) (level : Bool) : Device :=
  (p.setZone z { p.zones.get z with stable := level, interval := none }).afterBreaker z
    (p.zones.get z).isOpen

end Sys2Proof.Machine
end

