-- ==== Sys2Proof/Machine/Evaluation.lean ====
section
/-! DEFINITION. The work of one close (spec/02_line_sensors_and_the_node_table.md, 2.4 and 2.5;
spec/05_continuity_evaluation.md): node health, the moves into and out of BLIND and DORMANT, the continuity
arithmetic, scores, settling and the transition decision. -/

namespace Sys2Proof.Machine

/-- The stored report of a node, when the node is in the arrived set. -/
def reportOf (reports : List StoredReport) (n : NodeIx) : Option StoredReport :=
  reports.find? fun r => r.node == n

/-! ## Node health (R41 to R43) -/

/-- R41, R42: what a close makes of one bound node. -/
def Node.afterClose (c : Close) (missLimit : Nat) (n : NodeIx) (r : Node) : Node :=
  if r.bound then
    match reportOf c.reports n with
    | some rep =>
      { r with health := if rep.fault then .faulty else .live, miss := 0, lastHeard := some c.epoch }
    | none =>
      if n ∈ c.expected then
        { r with
          miss := min 255 (r.miss + 1)
          health := if missLimit ≤ min 255 (r.miss + 1) then .stale else r.health }
      else r
  else r

/-- R43: a node's health has become STALE or FAULTY having been something else. -/
def entersBadHealth (old new : Health) : Bool := new.bad && new != old

/-- R41 to R43: the Node Table's work on a close. -/
def Device.nodeWork (c : Close) (p : Device) : Device :=
  let limit := p.clock.settings.missLimit
  let after := p.nodes.mapIdx (Node.afterClose c limit)
  let q := { p with nodes := after }
  if p.nodes.any fun n r => entersBadHealth r.health (after.get n).health then q.setNodeFlag else q

/-! ## The work on one phase (R92 to R97) -/

/-- The open term of a scored phase (R93); none when the downstream list is empty. -/
inductive OpenTerm where
  | hit | miss | absent
deriving DecidableEq, Repr

/-- A phase result (R97). A leak hit carries its increment; none is a leak miss (R96). -/
inductive PhaseResult where
  | skipped
  | inconsistent
  | scored (openTerm : OpenTerm) (leak : Option Nat)
deriving DecidableEq, Repr

/-- The figures of one phase: the upstream voltage and current, and the downstream voltages and currents
in list order (R91). -/
structure PhaseFigures where
  vu : Nat
  iu : Nat
  vd : List Nat
  id : List Nat
  tap : Nat
deriving DecidableEq, Repr

/-- R93: the continuity ratio, from the upstream voltage and the least downstream voltage. -/
def continuityRatio (vu vmin : Nat) : Nat := min 2047 (1024 * vmin / vu)

/-- R93: the open term. -/
def openTerm (prof : Profile) (f : PhaseFigures) : OpenTerm :=
  match f.vd with
  | [] => .absent
  | v :: vs => if continuityRatio f.vu (vs.foldl min v) < prof.openRatio then .hit else .miss

/-- R94: the residual. -/
def residual (f : PhaseFigures) : Int := (f.iu : Int) - (f.id.sum : Int) - (f.tap : Int)

/-- R96: the leak increment of a residual of LEAK_MIN or above. -/
def leakIncrement (prof : Profile) (r : Int) : Nat :=
  min 15 (1 + (r - (prof.leakMin : Int)).toNat / prof.leakUnit)

/-- R96: the leak term. -/
def leakTerm (prof : Profile) (r : Int) : Option Nat :=
  if (prof.leakMin : Int) ≤ r then some (leakIncrement prof r) else none

/-- R92 to R97: one phase of an evaluable record. -/
def phaseResult (prof : Profile) (f : PhaseFigures) : PhaseResult :=
  if f.vu < prof.liveLevel then .skipped
  else if residual f < -(prof.reverseTol : Int) then .inconsistent
  else .scored (openTerm prof f) (leakTerm prof (residual f))

/-- R97, R102: the phase passed the source test. -/
def PhaseResult.passed : PhaseResult → Bool
  | .skipped => false
  | .inconsistent => true
  | .scored _ _ => true

/-- R100: a hit is applied on the phase. -/
def PhaseResult.hit : PhaseResult → Bool
  | .skipped => false
  | .inconsistent => false
  | .scored o l => o == .hit || l.isSome

/-- R98: the open score after a phase result. -/
def newOpenScore (prof : Profile) (motion : Bool) (res : PhaseResult) (score : Nat) : Nat :=
  match res with
  | .scored .hit _ => min 255 (score + (if motion then 2 * prof.openStep else prof.openStep))
  | .scored .miss _ => score - 1
  | .scored .absent _ => score
  | .skipped => score
  | .inconsistent => score

/-- R99: the leak score after a phase result. -/
def newLeakScore (prof : Profile) (res : PhaseResult) (score : Nat) : Nat :=
  match res with
  | .scored _ (some inc) => min 255 (score + inc)
  | .scored _ none => score - prof.leakDecay
  | .skipped => score
  | .inconsistent => score

/-! ## The work on one record (R90, R91, R98 to R109) -/

/-- R90: every node the record names has a stored report without FAULT. -/
def evaluable (reports : List StoredReport) (r : SectionRec) : Bool :=
  r.nodes.all fun n =>
    match reportOf reports n with
    | some rep => !rep.fault
    | none => false

/-- R98: some named node's stored report carries MOTION. -/
def anyMotion (reports : List StoredReport) (r : SectionRec) : Bool :=
  r.nodes.any fun n =>
    match reportOf reports n with
    | some rep => rep.motion
    | none => false

/-- R91: the voltage of a node on a phase, in its stored report. -/
def voltageOf (reports : List StoredReport) (ph : Phase) (n : NodeIx) : Nat :=
  match reportOf reports n with
  | some rep => rep.voltage.get ph
  | none => 0

/-- R91: the current of a node on a phase, in its stored report. -/
def currentOf (reports : List StoredReport) (ph : Phase) (n : NodeIx) : Nat :=
  match reportOf reports n with
  | some rep => rep.current.get ph
  | none => 0

/-- R91: the figures of a record on a phase. -/
def figures (reports : List StoredReport) (r : SectionRec) (ph : Phase) : PhaseFigures :=
  { vu := voltageOf reports ph r.upstream
    iu := currentOf reports ph r.upstream
    vd := r.downstream.map (voltageOf reports ph)
    id := r.downstream.map (currentOf reports ph)
    tap := r.tap.get ph }

/-- R91: the result of each phase; a phase outside the set is not taken and its scores stay. -/
def phaseResults (prof : Profile) (reports : List StoredReport) (r : SectionRec) : PerPhase PhaseResult :=
  PerPhase.ofFn fun ph =>
    if r.phases.get ph then phaseResult prof (figures reports r ph) else .skipped

/-- Some phase has a result with the given property. -/
def anyResult (f : PhaseResult → Bool) (res : PerPhase PhaseResult) : Bool :=
  allPhases.any fun ph => f (res.get ph)

/-- R95: some phase is INCONSISTENT. -/
def anyInconsistent (res : PerPhase PhaseResult) : Bool := anyResult (· == .inconsistent) res

/-- R95: the inconsistent flag after a close. -/
def SectionRec.markInconsistent (res : PerPhase PhaseResult) (r : SectionRec) : SectionRec :=
  { r with inconsistent := r.inconsistent || anyInconsistent res }

/-- R98 to R100: the scores and the first-hit epoch after the phase results of a close. -/
def SectionRec.applyScores (prof : Profile) (motion : Bool) (epoch : Half) (res : PerPhase PhaseResult)
    (r : SectionRec) : SectionRec :=
  { r with
    openScore := PerPhase.ofFn fun ph => newOpenScore prof motion (res.get ph) (r.openScore.get ph)
    leakScore := PerPhase.ofFn fun ph => newLeakScore prof (res.get ph) (r.leakScore.get ph)
    firstHit := if r.firstHit.isNone && anyResult PhaseResult.hit res then some epoch else r.firstHit }

/-- R102, R103: a SETTLING record's count, and its move to ARMED. -/
def SectionRec.settleDown (res : PerPhase PhaseResult) (r : SectionRec) : SectionRec :=
  if anyResult PhaseResult.passed res then
    { r with settle := r.settle - 1, state := if r.settle - 1 = 0 then .armed else .settling }
  else r

/-- R123: the effective open trip level. -/
def tOpen (prof : Profile) (hazard : Hazard) : Nat :=
  match hazard with
  | .normal => prof.openTrip
  | .elevated => prof.openTrip
  | .extreme => max prof.openSuspect ((prof.openTrip + 1) / 2)

/-- The highest of the three scores (R27, R105). -/
def highest (s : PerPhase Nat) : Nat := max s.a (max s.b s.c)

/-- R105, R106: the first phase, in the order A, B, C, with the highest score. -/
def causePhase (s : PerPhase Nat) : Phase :=
  if s.a = highest s then .a else if s.b = highest s then .b else .c

/-- What the transition decision answers (R104). -/
inductive Decision where
  | confirm (cause : Cause)
  | suspect
  | release
  | stay
deriving DecidableEq, Repr

/-- R104 to R108: the decision on an ARMED or SUSPECT record, on its scores after the close's changes. -/
def decision (prof : Profile) (hazard : Hazard) (r : SectionRec) : Decision :=
  if tOpen prof hazard ≤ highest r.openScore then .confirm ⟨.openLine, causePhase r.openScore⟩
  else if hazard ≠ .normal ∧ prof.leakTrip ≤ highest r.leakScore then
    .confirm ⟨.ground, causePhase r.leakScore⟩
  else if prof.openSuspect ≤ highest r.openScore ∨ prof.leakSuspect ≤ highest r.leakScore then .suspect
  else if r.state = .suspect ∧ highest r.openScore = 0 ∧ highest r.leakScore = 0 then .release
  else .stay

/-- R109: a record that goes to CONFIRMED, before its trip request is answered. -/
def SectionRec.confirm (cause : Cause) (epoch : Half) (r : SectionRec) : SectionRec :=
  { r with state := .confirmed, settle := 0, mark := .none, escalated := false, cause := some cause,
           confirmEpoch := some epoch }

/-- R95, R111: setting SECTION when a condition holds. -/
def Device.sectionFlagIf (p : Device) (b : Bool) : Device := if b then p.setSectionFlag else p

/-- R104 to R111: what the decision does to record `i`, standing as `r` after its score changes. -/
def Device.carryOut (p : Device) (i : SecIx) (epoch : Half) (r : SectionRec) : Device :=
  match decision (p.profileOf r) (p.zones.get r.zone).hazard r with
  | .confirm cause => ((p.setSection i (r.confirm cause epoch)).setSectionFlag).tripRequest i
  | .suspect => (p.setSection i { r with state := .suspect }).sectionFlagIf (r.state != .suspect)
  | .release => p.setSection i { r with state := .armed }
  | .stay => p.setSection i r

/-- R90 to R111: the evaluation of record `i`, which stands in SETTLING, ARMED or SUSPECT. A record that
is not evaluable is held. -/
def Device.evaluate (c : Close) (p : Device) (i : SecIx) : Device :=
  let r := p.sections.get i
  if evaluable c.reports r then
    let prof := p.profileOf r
    let res := phaseResults prof c.reports r
    let q := p.sectionFlagIf (anyInconsistent res)
    let r1 := r.markInconsistent res
    if r.state = .settling then q.setSection i (r1.settleDown res)
    else q.carryOut i c.epoch (r1.applyScores prof (anyMotion c.reports r) c.epoch res)
  else p

/-! ## The work of a close (R44 to R46, R83, R89) -/

/-- R44: a record in ARMED or SETTLING, and not evaluated when the close moves it. -/
def Device.parkOrEvaluate (c : Close) (p : Device) (i : SecIx) : Device :=
  let r := p.sections.get i
  if p.energized r.zone then
    if p.namesBadNode r then (p.setSection i r.enterBlind).setSectionFlag else p.evaluate c i
  else p.setSection i r.enterDormant

/-- R45: a BLIND record that recovers. -/
def Device.recover (p : Device) (i : SecIx) : Device :=
  let r := p.sections.get i
  if p.energized r.zone ∧ p.namesBadNode r = false then
    p.setSection i (r.enterSettling (p.profileOf r))
  else p

/-- R29, R44 to R46, R89: the work of one close on record `i`, whole. -/
def Device.recordWork (c : Close) (p : Device) (i : SecIx) : Device :=
  match (p.sections.get i).state with
  | .armed => p.parkOrEvaluate c i
  | .settling => p.parkOrEvaluate c i
  | .suspect => p.evaluate c i
  | .blind => p.recover i
  | .vacant => p
  | .draft => p
  | .confirmed => p
  | .isolated => p
  | .dormant => p

/-- R83, R89: the whole work of one close: the Node Table first, then the records in ascending index. -/
def Device.workClose (p : Device) (c : Close) : Device :=
  (List.finRange 128).foldl (Device.recordWork c) (p.nodeWork c)

/-- R83, R88: the whole work of several closes, in increasing epoch order. -/
def Device.workCloses (p : Device) (cs : List Close) : Device := cs.foldl Device.workClose p

/-! ## The work in hand, piece by piece (R83, R88, R89, R110, R113) -/

/-- R88, R89: a piece of the work on the first held close is done at record `i`: the record above it is next,
and after the last record the close is done and nothing is kept of it. -/
def HeldWork.advance (i : SecIx) (w : HeldWork) : HeldWork :=
  if i = 127 then { w with closes := w.closes.tail, reach := none } else { w with reach := some (i + 1) }

/-- R83, R89: the next piece of the work on the first held close: the Node Table's work, or the work on one
record. Any other event may come between two pieces. -/
def Device.closePiece (p : Device) (c : Close) : Device :=
  match p.held.reach with
  | none => { p.nodeWork c with held := { p.held with reach := some 0 } }
  | some i => { p.recordWork c i with held := p.held.advance i }

/-- R83, R89: what is left of the work on a close, from the record reached on. -/
def Device.finishClose (p : Device) (c : Close) : Device :=
  match p.held.reach with
  | none => p.workClose c
  | some i => ((List.finRange 128).drop i.val).foldl (Device.recordWork c) p

/-- R83: the work in hand done to its end; no close is held after it. Every event that reaches the slots is
taken after it. -/
def Device.finishWork (p : Device) : Device :=
  match p.held.closes with
  | [] => p
  | c :: rest =>
    Device.workCloses { p.finishClose c with held := { closes := [], reach := none } } rest

/-- R83, R88: some close is held. -/
def HeldWork.inHand (w : HeldWork) : Bool := !w.closes.isEmpty

/-- One piece of the work in hand; nothing where no close is held. -/
def Device.workPiece (p : Device) : Device :=
  match p.held.closes with
  | c :: _ => p.closePiece c
  | [] => p

/-- R83: at most four closes are held: when four are, the work on the first is done to its end. -/
def Device.makeRoom (p : Device) : Device :=
  match p.held.closes with
  | c :: rest =>
    if Config.slotCount ≤ p.held.closes.length then
      { p.finishClose c with held := { closes := rest, reach := none } }
    else p
  | [] => p

end Sys2Proof.Machine
end

