-- ==== Sys2Proof/Machine/Assembly.lean ====
section
/-! DEFINITION. Assembly slots (spec/04_epochs_and_assembly.md, 4.2): the expected set, opening, storing a
report, completing, closing and the cascade, the tick, each waiting for the work in hand on the closes delivered
(R83, R88); and the passing of time. -/

namespace Sys2Proof.Machine

/-- R40: a record in one of the four states whose nodes are expected. -/
def SecState.expects : SecState → Bool
  | .settling => true
  | .armed => true
  | .suspect => true
  | .blind => true
  | .vacant => false
  | .draft => false
  | .confirmed => false
  | .isolated => false
  | .dormant => false

/-- R40: whether a bound node is named by a record that expects its nodes. -/
def Device.expects (p : Device) (n : NodeIx) : Bool :=
  (p.nodes.get n).bound && p.sections.any fun _ r => r.state.expects && decide (n ∈ r.nodes)

/-- R40: the expected set as the tables now stand. -/
def Device.expectedSet (p : Device) : List NodeIx := (List.finRange 64).filter p.expects

/-- R77: the arrived set of a slot: the nodes of its stored reports. -/
def Slot.arrived (s : Slot) : List NodeIx := s.reports.map StoredReport.node

/-- R80: the arrived set contains the expected set. -/
def Slot.full (s : Slot) : Bool := s.expected.all fun n => decide (n ∈ s.arrived)

/-- R80: a GATHERING slot whose arrived set contains its expected set becomes COMPLETE; a COMPLETE slot
stays so. -/
def Slot.checkComplete (s : Slot) : Slot := { s with complete := s.complete || s.full }

/-- R83: what a closing slot delivers. -/
def Slot.toClose (s : Slot) : Close := { epoch := s.epoch, expected := s.expected, reports := s.reports }

/-- R82, R88: the slots closed by one piece of work leave the open slots together, the rest of the COMPLETE
slots now oldest with them, and are delivered in epoch order, to be held until they are worked. The open
slots stand oldest first, and the first `k` of them are the slots that must close. -/
def Device.closeOldest (p : Device) (k : Nat) : Device :=
  let rest := p.slots.drop k
  { p with
    slots := rest.dropWhile Slot.complete
    held := { p.held with
      closes := p.held.closes
        ++ (p.slots.take k ++ rest.takeWhile Slot.complete).map Slot.toClose } }

/-- R81, R82: the COMPLETE slots that are oldest close. -/
def Device.cascade (p : Device) : Device := p.closeOldest 0

/-- R78: the slot that a tick opens for the current epoch, with the deadline of its tick. -/
def Device.newSlot (p : Device) (deadline : Moment) : Slot :=
  Slot.checkComplete
    { epoch := p.clock.epoch, deadline := deadline, expected := p.expectedSet, complete := false,
      reports := [] }

/-- R78, steps 2 and 3: the slot opens, and closes at once when it is COMPLETE and the oldest. Should four
closes be held then, the first of them is worked before this one is delivered (R83; log entry 11). -/
def Device.openSlot (p : Device) (deadline : Moment) : Device :=
  let slot := p.newSlot deadline
  let q := if p.slots.isEmpty && slot.complete then p.makeRoom else p
  Device.cascade { q with slots := q.slots ++ [slot] }

/-- Time passes to the moment of an event; an event whose moment lies in the past is taken now (log entry
4). The work in hand is done before time passes (log entry 22). -/
def Device.passTo (p : Device) (t : Moment) : Device :=
  if p.now < t then { p.finishWork with now := t } else p

/-! ## Ticks, reports and deadlines -/

/-- R78: a tick at the assembler, whole. With no slot FREE the oldest open slot closes, the cascade follows,
and those closes are delivered; the slot of the current epoch opens in the same step, its expected set taken
from the tables as they stand at the tick (log entry 11). -/
def Device.takeTick (p : Device) : Device :=
  let q := if Config.slotCount ≤ p.slots.length then p.closeOldest 1 else p
  q.openSlot (p.now + ms p.clock.settings.window)

/-- R75, R78, R83: a tick, taken when the work in hand has ended. -/
def Device.tick (p : Device) : Device :=
  let q := p.finishWork
  Device.takeTick { q with clock := { q.clock with epoch := q.clock.epoch + 1#16 } }

/-- The index, oldest first, of the open slot that holds an epoch. -/
def Device.slotOf (p : Device) (e : Half) : Option Nat := p.slots.findIdx? fun s => s.epoch == e

/-- R81: the slot at index k must close: every older open slot closes first. -/
def Device.closeThrough (p : Device) (k : Nat) : Device := p.closeOldest (k + 1)

/-- R63: a counter that saturates at 65535. -/
def countUp (n : Nat) : Nat := min 65535 (n + 1)

def Device.withCounters (p : Device) (f : LinkCounters → LinkCounters) : Device :=
  { p with link := { p.link with counters := f p.link.counters } }

/-- R63, R79: LATE, EARLY and DUPLICATE set no alert flag. -/
def LinkCounters.countLate (c : LinkCounters) : LinkCounters := { c with late := countUp c.late }
def LinkCounters.countEarly (c : LinkCounters) : LinkCounters := { c with early := countUp c.early }
def LinkCounters.countDuplicate (c : LinkCounters) : LinkCounters :=
  { c with duplicate := countUp c.duplicate }

/-- R79, R80: a report joins a slot. -/
def Slot.store (rep : StoredReport) (s : Slot) : Slot :=
  Slot.checkComplete { s with reports := s.reports ++ [rep] }

/-- R79: an admitted report for epoch e, no work being in hand. -/
def Device.takeReport (p : Device) (e : Half) (rep : StoredReport) : Device :=
  if 32768 ≤ (p.clock.epoch - e).toNat then p.withCounters LinkCounters.countEarly
  else
    match p.slotOf e with
    | none => p.withCounters LinkCounters.countLate
    | some k =>
      if p.slots.any (fun s => s.epoch == e && decide (rep.node ∈ s.arrived)) then
        p.withCounters LinkCounters.countDuplicate
      else Device.cascade { p with slots := p.slots.modify k (Slot.store rep) }

/-- R79, R83: an admitted report, taken when the work in hand has ended. -/
def Device.storeReport (p : Device) (e : Half) (rep : StoredReport) : Device := p.finishWork.takeReport e rep

/-- R37: a node leaves an open slot's reports, arrived set and expected set. -/
def Slot.removeNode (n : NodeIx) (s : Slot) : Slot :=
  Slot.checkComplete
    { s with
      reports := s.reports.filter fun r => r.node != n
      expected := s.expected.filter fun m => m != n }

/-- R37, R80 to R82: a node leaves every open slot, and the slots that this completes close in order. -/
def Device.removeFromSlots (p : Device) (n : NodeIx) : Device :=
  Device.cascade { p with slots := p.slots.map (Slot.removeNode n) }

/-- SLOT_DEADLINE (R81): the deadline of the open slot of an epoch passes; time passes to it (log entry 5).
It is taken when the work in hand has ended (R83). With no such slot open there is no deadline (log entry
6). -/
def Device.slotDeadline (p : Device) (e : Half) : Device :=
  let q := p.finishWork
  match q.slotOf e with
  | some k => (q.passTo ((q.slots.map Slot.deadline).getD k q.now)).closeThrough k
  | none => p

/-- SLOT_DEADLINE (R81). -/
def execSlotDeadline (epoch : Half) (s : State) : Host.Outcome State Fault Refusal :=
  s.run fun p => p.slotDeadline epoch

end Sys2Proof.Machine
end

