-- ==== Sys2Proof/Machine/Breaker.lean ====
section
/-! DEFINITION. The rows BRK_LEVEL_CHANGE, DEBOUNCE_EXPIRY and TRIP_TIMEOUT
(spec/07_protection_zones_and_trip_sequencing.md, 7.2 and 7.4). -/

namespace Sys2Proof.Machine

/-! ## The rows of the Zone Controller's own events -/

/-- R133: the level on BRK_z changes, now: a running interval is abandoned, and a level that differs from the
stable level starts one, or is stable at once under a debounce of 0. -/
def Device.changeLevel (p : Device) (z : ZoneIx) (high : Bool) : Device :=
  let y := p.zones.get z
  let q := p.setZone z { y with pin := high, interval := none }
  if y.stable = high then q
  else if y.debounce = 0 then q.becomeStable z high
  else q.setZone z { y with pin := high, interval := some ⟨high, p.now + ms y.debounce⟩ }

/-- R133: zone z's running debounce interval ends; time passes to that moment (log entry 5). -/
def Device.debounceExpiry (p : Device) (z : ZoneIx) : Device :=
  match (p.zones.get z).interval with
  | some d => (p.passTo d.ends).becomeStable z d.level
  | none => p

/-- R146: a timeout of zone z escalates. -/
def Device.timeoutEscalates (p : Device) (z : ZoneIx) : Bool :=
  z != 0 && (p.zones.get z).escalationEnable && !(p.zones.get z).causes.isEmpty

/-- R146, R147: the trip timer of a TRIPPING zone z expires now. -/
def Device.timeout (p : Device) (z : ZoneIx) : Device :=
  let y := p.zones.get z
  let up := p.timeoutEscalates z
  let q := p.latchOutcome z
    (sectionOutcome .failed y.manual ((up && p.zone0Takes) || p.anyEscalated y.causes) y.causes)
  let h := q.setZone z (q.zones.get z).hang
  if up then h.escalate y.causes else h.mapListed y.causes (SectionRec.withMark .failed)

/-- R146, R147: the expiry of zone z's running trip timer; time passes to that moment (log entry 5). -/
def Device.tripTimeout (p : Device) (z : ZoneIx) : Device :=
  match (p.zones.get z).seq, (p.zones.get z).timer with
  | .tripping, some t => (p.passTo t).timeout z
  | _, _ => p

/-- R133: zone z's pending level has been held for its whole interval when `t` comes, so that it became the
stable level. -/
def Device.intervalUpTo (p : Device) (z : ZoneIx) (t : Moment) : Device :=
  match (p.zones.get z).interval with
  | some d => if d.ends ≤ t then p.debounceExpiry z else p
  | none => p

/-- R146, R150: zone z's trip timer runs out before `t` comes, and before a running debounce interval ends. -/
def Device.timerUpTo (p : Device) (z : ZoneIx) (t : Moment) : Device :=
  match (p.zones.get z).timer with
  | some x =>
    if x < t ∧ (∀ d ∈ (p.zones.get z).interval, x < d.ends) then p.tripTimeout z else p
  | none => p

/-- R133: BRK_z changes its level at a moment: what zone z's own timers bring before that moment comes first,
in the order of their moments (log entry 4). A row that names the level already there is no change (log entry
6). -/
def Device.brkLevelChange (p : Device) (t : Moment) (z : ZoneIx) (high : Bool) : Device :=
  if (p.zones.get z).pin = high then p.passTo t
  else ((((p.timerUpTo z (max p.now t)).intervalUpTo z (max p.now t))).passTo t).changeLevel z high

/-- BRK_LEVEL_CHANGE (R133). A zone number above 3 names no line and no event (log entry 6). -/
def execBrkLevelChange (moment : Moment) (zone : Nat) (high : Bool) (s : State) :
    Host.Outcome State Fault Refusal :=
  s.run fun p => if h : zone < 4 then p.brkLevelChange moment ⟨zone, h⟩ high else p

/-- DEBOUNCE_EXPIRY (R133, R134). -/
def execDebounceExpiry (zone : Nat) (s : State) : Host.Outcome State Fault Refusal :=
  s.run fun p => if h : zone < 4 then p.debounceExpiry ⟨zone, h⟩ else p

/-- TRIP_TIMEOUT (R146, R147). -/
def execTripTimeout (zone : Nat) (s : State) : Host.Outcome State Fault Refusal :=
  s.run fun p => if h : zone < 4 then p.tripTimeout ⟨zone, h⟩ else p

end Sys2Proof.Machine
end

