-- ==== Sys2Proof/Machine/Clock.lean ====
section
/-! DEFINITION. The Epoch Clock (spec/04_epochs_and_assembly.md, 4.1 and 4.3): lock states, SYNC pulses and
the clock's own ticks, and the commands 14h to 17h. -/

namespace Sys2Proof.Machine

/-- R70: an interval begins now, with the period and grace that now stand. -/
def EpochClock.begin (c : EpochClock) (now : Moment) : EpochClock :=
  { c with ref := some now, runPeriod := c.settings.period, runGrace := c.settings.grace }

/-- The Epoch Clock changed. -/
def Device.withClock (p : Device) (f : EpochClock → EpochClock) : Device := { p with clock := f p.clock }

/-- R71, R73: the clock goes to LOCKED with the reference instant at the pulse; the holdover count and the
sync-lost indication are cleared. -/
def EpochClock.relock (c : EpochClock) (now : Moment) : EpochClock :=
  { c.begin now with lock := .locked, holdover := 0, syncLost := false }

/-- R72, R73: a glitch raises the glitch count, saturating at 65535 (R68). -/
def EpochClock.glitch (c : EpochClock) : EpochClock := { c with glitches := countUp c.glitches }

/-- R72: the earliest and the latest on-time moment after the reference instant, and R73's period. -/
def EpochClock.earlyLimit (c : EpochClock) : Nat := ms (c.runPeriod - c.runGrace)
def EpochClock.lateLimit (c : EpochClock) : Nat := ms (c.runPeriod + c.runGrace)

/-- R72: a pulse in LOCKED, δ after the reference instant. A δ above the late limit has no row in R72: the
expiry comes first and the pulse is not taken before it (log entry 13). -/
def Device.pulseLocked (p : Device) (δ : Nat) : Device :=
  if δ < p.clock.earlyLimit then p.withClock EpochClock.glitch
  else if δ ≤ p.clock.lateLimit then (p.withClock fun c => c.begin p.now).tick
  else p

/-- R73: a pulse in HOLDOVER, δ after the reference instant. A δ above the period has no row in R73: the
internal tick comes first (log entry 13). -/
def Device.pulseHoldover (p : Device) (δ : Nat) : Device :=
  if δ ≤ ms p.clock.runGrace then p.withClock fun c => c.relock p.now
  else if δ < p.clock.earlyLimit then p.withClock EpochClock.glitch
  else if δ ≤ ms p.clock.runPeriod then (p.withClock fun c => c.relock p.now).tick
  else p

/-- R71 to R73, R75: a rising edge on SYNC, now. -/
def Device.syncPulse (p : Device) : Device :=
  match p.clock.lock, p.clock.ref with
  | .acquiring, _ => (p.withClock fun c => c.relock p.now).tick
  | .locked, some r => p.pulseLocked (p.now - r)
  | .holdover, some r => p.pulseHoldover (p.now - r)
  | .locked, none => p
  | .holdover, none => p
  | .free, _ => p

/-- R74: after the holdover count was set or raised: at the holdover limit or above, the sync-lost
indication is set, and SYNC with it when the indication was clear. -/
def Device.checkSyncLost (p : Device) : Device :=
  if p.clock.settings.holdoverLimit ≤ p.clock.holdover ∧ p.clock.syncLost = false then
    (p.withClock fun c => { c with syncLost := true }).setSyncFlag
  else p

/-- R72, R74: the LOCKED timer expires: a tick, HOLDOVER with count 1, SYNC set. -/
def Device.enterHoldover (p : Device) : Device :=
  Device.tick (Device.checkSyncLost
    ((p.withClock fun c => { c.begin p.now with lock := .holdover, holdover := 1 }).setSyncFlag))

/-- R73, R74: an internal tick in HOLDOVER. -/
def Device.holdoverTick (p : Device) : Device :=
  Device.tick (Device.checkSyncLost
    (p.withClock fun c => { c.begin p.now with holdover := countUp c.holdover }))

/-- R75: an internal tick in FREE. -/
def Device.freeTick (p : Device) : Device := (p.withClock fun c => c.begin p.now).tick

/-- SYNC_PULSE (R71 to R75). -/
def execSyncPulse (moment : Moment) (s : State) : Host.Outcome State Fault Refusal :=
  s.run fun p => (p.passTo moment).syncPulse

/-- SYNC_TIMER_EXPIRY (R72): time passes to the expiry (log entry 5); it comes in LOCKED alone (log entry
6). -/
def execSyncTimerExpiry (s : State) : Host.Outcome State Fault Refusal :=
  s.run fun p =>
    match p.clock.lock, p.clock.ref with
    | .locked, some r => (p.passTo (r + p.clock.lateLimit)).enterHoldover
    | _, _ => p

/-- HOLDOVER_TICK (R73, R74): time passes to a full period after the reference instant (log entry 5). -/
def execHoldoverTick (s : State) : Host.Outcome State Fault Refusal :=
  s.run fun p =>
    match p.clock.lock, p.clock.ref with
    | .holdover, some r => (p.passTo (r + ms p.clock.runPeriod)).holdoverTick
    | _, _ => p

/-- FREE_TICK (R75): time passes to a full period after the reference instant (log entry 5). -/
def execFreeTick (s : State) : Host.Outcome State Fault Refusal :=
  s.run fun p =>
    match p.clock.lock, p.clock.ref with
    | .free, some r => (p.passTo (r + ms p.clock.runPeriod)).freeTick
    | _, _ => p

/-! ## Commands 14h to 17h -/

/-- R69: the settings that the parameters give, each clamped, the grace then to half the period. -/
def clockSettings (src : ClockSource) (period grace limit window miss : Nat) : ClockSettings :=
  { source := src
    period := clamp 10 200 period
    grace := min (clamp 1 50 grace) (clamp 10 200 period / 2)
    holdoverLimit := clamp 1 65535 limit
    window := clamp 5 600 window
    missLimit := clamp 1 255 miss }

/-- R69: some parameter was clamped. -/
def ClockSettings.differs (c : ClockSettings) (period grace limit window miss : Nat) : Bool :=
  c.period != period || c.grace != grace || c.holdoverLimit != limit || c.window != window
    || c.missLimit != miss

/-- R70: the source takes effect at once; a source already in use changes nothing but the settings. -/
def EpochClock.apply (c : EpochClock) (now : Moment) (new : ClockSettings) : EpochClock :=
  let d := { c with settings := new }
  if c.settings.source = new.source then d
  else
    match new.source with
    | .internal => { d.begin now with lock := .free, holdover := 0, syncLost := false }
    | .external => { d with lock := .acquiring, ref := none, holdover := 0, syncLost := false }

/-- R69, R70: SET EPOCH CLOCK. -/
def Device.setEpochClock (source period grace : Byte) (limit window : Half) (miss : Byte) (p : Device) :
    Answer :=
  match sourceParam source with
  | none => p.refuse .badValue
  | some src =>
    let new := clockSettings src period.toNat grace.toNat limit.toNat window.toNat miss.toNat
    (p.withClock fun c => c.apply p.now new).accept
      (okOrClamped (new.differs period.toNat grace.toNat limit.toNat window.toNat miss.toNat))

/-- R76: READ EPOCH CLOCK. -/
def Device.readEpochClock (p : Device) : Answer :=
  let c := p.clock
  (p, [ResultCode.ok.byte, c.settings.source.code, natByte c.settings.period, natByte c.settings.grace]
    ++ natHalf c.settings.holdoverLimit ++ natHalf c.settings.window
    ++ [natByte c.settings.missLimit, c.lock.code] ++ halfBytes c.epoch ++ natHalf c.holdover
    ++ [flagByte c.syncLost] ++ natHalf c.glitches ++ [natByte p.slots.length])

/-- R85: every open slot freed without evaluation. -/
def Device.freeSlots (p : Device) : Device := { p with slots := [] }

/-- R83, R85: SET EPOCH NUMBER, taken when the work in hand has ended. -/
def Device.setEpochNumber (n : Half) (p : Device) : Answer :=
  (p.finishWork.freeSlots.withClock fun c => { c with epoch := n }).accept .ok

/-- R34, R86: a restart sets the miss count of every bound record to 0. -/
def Node.restart (r : Node) : Node := if r.bound then { r with miss := 0 } else r

/-- R86: a restart sends a record in ARMED, SUSPECT or SETTLING to SETTLING. -/
def SectionRec.restart (prof : Profile) (r : SectionRec) : SectionRec :=
  match r.state with
  | .armed => r.enterSettling prof
  | .suspect => r.enterSettling prof
  | .settling => r.enterSettling prof
  | .vacant => r
  | .draft => r
  | .confirmed => r
  | .isolated => r
  | .blind => r
  | .dormant => r

/-- R86: some zone's sequencer is TRIPPING or HANGING. -/
def Device.anySequencerBusy (p : Device) : Bool := p.zones.any fun _ z => z.seq != .idle

/-- R86: RESTART EVALUATION, no work being in hand. -/
def Device.restart (p : Device) : Answer :=
  if p.anySequencerBusy then p.refuse .busy
  else
    (Device.mapSections { p.freeSlots with nodes := p.nodes.mapIdx fun _ r => r.restart }
      fun _ r => r.restart (p.profileOf r)).accept .ok

/-- R83, R86: RESTART EVALUATION, taken when the work in hand has ended. -/
def Device.restartEvaluation (p : Device) : Answer := p.finishWork.restart

/-- SET_EPOCH_CLOCK (R69, R70). -/
def execSetEpochClock (source period grace : Byte) (holdoverLimit window : Half) (missLimit : Byte)
    (s : State) : Host.Outcome State Fault Refusal :=
  s.run fun p => Device.taken (p.setEpochClock source period grace holdoverLimit window missLimit)

/-- READ_EPOCH_CLOCK (R76). -/
def execReadEpochClock (s : State) : Host.Outcome State Fault Refusal :=
  s.run fun p => Device.taken p.readEpochClock

/-- SET_EPOCH_NUMBER (R85). -/
def execSetEpochNumber (n : Half) (s : State) : Host.Outcome State Fault Refusal :=
  s.run fun p => Device.taken (p.setEpochNumber n)

/-- RESTART_EVALUATION (R86). -/
def execRestartEvaluation (s : State) : Host.Outcome State Fault Refusal :=
  s.run fun p => Device.taken p.restartEvaluation

end Sys2Proof.Machine
end

