-- ==== Sys2Proof/Machine/Link.lean ====
section
/-! DEFINITION. The Link Receiver and the Stranger Slots (spec/03_the_sensor_link.md;
spec/02_line_sensors_and_the_node_table.md, 2.6): characters, the gap timer, frames and their CRC, admission,
link counters, stranger sightings, and the commands 10h to 13h, 23h and 24h. -/

namespace Sys2Proof.Machine

/-! ## Counting (R63) -/

def LinkCounters.countCrcErr (c : LinkCounters) : LinkCounters := { c with crcErr := countUp c.crcErr }
def LinkCounters.countFormatErr (c : LinkCounters) : LinkCounters :=
  { c with formatErr := countUp c.formatErr }
def LinkCounters.countGapAbort (c : LinkCounters) : LinkCounters :=
  { c with gapAbort := countUp c.gapAbort }
def LinkCounters.countUnsupported (c : LinkCounters) : LinkCounters :=
  { c with unsupported := countUp c.unsupported }
def LinkCounters.countForeign (c : LinkCounters) : LinkCounters := { c with foreign := countUp c.foreign }
def LinkCounters.countUnknown (c : LinkCounters) : LinkCounters := { c with unknown := countUp c.unknown }

/-- R63: CRC_ERR, FORMAT_ERR and GAP_ABORT set the LINK flag at each count. -/
def Device.countLinkError (p : Device) (f : LinkCounters → LinkCounters) : Device :=
  (p.withCounters f).setLinkFlag

/-! ## CRC (R56) -/

/-- One shift of the CRC register. -/
def crcShift (r : Half) : Half := if r.msb then (r <<< 1) ^^^ Config.crcPoly else r <<< 1

/-- One byte enters the CRC register, most significant bit first. -/
def crcByte (r : Half) (b : Byte) : Half := Nat.repeat crcShift 8 (r ^^^ half b 0#8)

/-- The CRC of a sequence of bytes. -/
def crcOf (bytes : List Byte) : Half := bytes.foldl crcByte Config.crcInit

/-! ## Reports (R58, R183) -/

/-- A body byte. -/
def bodyByte (body : List Byte) (k : Nat) : Byte := body.getD k 0#8

/-- A two-byte body field at an offset. -/
def bodyHalf (body : List Byte) (k : Nat) : Half := half (bodyByte body k) (bodyByte body (k + 1))

/-- R58, R183: the fields of a report's body of eight bytes or more. -/
def bodyAddr (body : List Byte) : Addr := addr3 (bodyByte body 2) (bodyByte body 3) (bodyByte body 4)
def bodyEpoch (body : List Byte) : Half := bodyHalf body 5
def bodyPhases (body : List Byte) : PhaseSet :=
  ⟨(bodyByte body 7).getLsbD 0, (bodyByte body 7).getLsbD 1, (bodyByte body 7).getLsbD 2⟩
def bodyFault (body : List Byte) : Bool := (bodyByte body 7).getLsbD 3
def bodyMotion (body : List Byte) : Bool := (bodyByte body 7).getLsbD 4

/-- R58, R183: where in the body a present phase's values stand, after the present phases before it. -/
def phaseOffset (s : PhaseSet) : Phase → Nat
  | .a => 8
  | .b => 8 + 4 * s.a.toNat
  | .c => 8 + 4 * s.a.toNat + 4 * s.b.toNat

/-- R62: an admitted voltage, clamped; 0 for a phase the report does not carry. -/
def admittedVoltage (body : List Byte) (ph : Phase) : Nat :=
  if (bodyPhases body).get ph then
    min Config.voltageMax (bodyHalf body (phaseOffset (bodyPhases body) ph)).toNat
  else 0

/-- R62: an admitted current, clamped; 0 for a phase the report does not carry. -/
def admittedCurrent (body : List Byte) (ph : Phase) : Nat :=
  if (bodyPhases body).get ph then
    min Config.currentMax (bodyHalf body (phaseOffset (bodyPhases body) ph + 2)).toNat
  else 0

/-- R62: what an admitted report hands on for a node. -/
def admitted (body : List Byte) (n : NodeIx) : StoredReport :=
  { node := n, phases := bodyPhases body, fault := bodyFault body, motion := bodyMotion body,
    voltage := PerPhase.ofFn (admittedVoltage body), current := PerPhase.ofFn (admittedCurrent body) }

/-! ## Stranger Slots (R48, R49) -/

/-- The first slot whose contents pass a test. -/
def Device.findStranger (p : Device) (f : Option Sighting → Bool) : Option (Fin 3) :=
  (List.finRange 3).find? fun k => f (p.strangers.get k)

/-- A slot holds an address. -/
def holdsAddr (a : Addr) : Option Sighting → Bool
  | some g => g.addr == a
  | none => false

/-- R49, case 1: a refreshed slot. -/
def Sighting.refresh (e : Half) (s : PhaseSet) (g : Sighting) : Sighting :=
  { g with lastEpoch := e, phases := s, count := min 255 (g.count + 1) }

/-- R49: a stranger sighting is placed. -/
def Device.sight (p : Device) (a : Addr) (e : Half) (s : PhaseSet) : Device :=
  let fresh : Sighting := { addr := a, lastEpoch := e, phases := s, count := 1 }
  match p.findStranger (holdsAddr a) with
  | some k =>
    { p with strangers := p.strangers.set k ((p.strangers.get k).map (Sighting.refresh e s)) }
  | none =>
    match p.findStranger Option.isNone with
    | some k => Device.setStrangerFlag { p with strangers := p.strangers.set k (some fresh) }
    | none =>
      Device.setStrangerFlag
        { p with strangers := p.strangers.set 2 (some fresh), overwrites := min 15 (p.overwrites + 1) }

/-! ## Admission (R59 to R62) -/

/-- The node record bound to an address. -/
def Device.nodeOf (p : Device) (a : Addr) : Option NodeIx :=
  (List.finRange 64).find? fun n => (p.nodes.get n).bound && (p.nodes.get n).addr == a

/-- R61: the join filter passes an address. -/
def LinkReceiver.joins (l : LinkReceiver) (a : Addr) : Bool :=
  (a &&& l.joinMask) == (l.joinValue &&& l.joinMask)

/-- R59, check 3: the body is too short, names no phase, or has not the length its phases need. -/
def reportMalformed (body : List Byte) : Bool :=
  decide (body.length < 8) || PhaseSet.count (bodyPhases body) == 0
    || body.length != 8 + 4 * PhaseSet.count (bodyPhases body)

/-- R59, check 4; R60: the report is foreign. -/
def LinkReceiver.foreign (l : LinkReceiver) (body : List Byte) : Bool :=
  (bodyByte body 1).toNat != l.feederId || l.feederId == Config.amnesiaId

/-- R59: a complete frame's fate, decided by the first condition that holds. -/
def Device.checkFrame (p : Device) (lenByte : Byte) (body : List Byte) (crc : Half) : Device :=
  if crcOf (lenByte :: body) ≠ crc then p.countLinkError LinkCounters.countCrcErr
  else if bodyByte body 0 ≠ Config.reportType then p.withCounters LinkCounters.countUnsupported
  else if reportMalformed body then p.countLinkError LinkCounters.countFormatErr
  else if p.link.foreign body then p.withCounters LinkCounters.countForeign
  else
    match p.nodeOf (bodyAddr body) with
    | none =>
      if p.link.joins (bodyAddr body) then p.sight (bodyAddr body) (bodyEpoch body) (bodyPhases body)
      else p.withCounters LinkCounters.countUnknown
    | some n =>
      if bodyPhases body ≠ (p.nodes.get n).phases then p.countLinkError LinkCounters.countFormatErr
      else p.storeReport (bodyEpoch body) (admitted body n)

/-! ## The frame receiver (R52, R54, R55, R57) -/

/-- R54: a frame is in progress. -/
def RxState.inFrame : RxState → Bool
  | .hunt => false
  | .sync1 => false
  | .length => true
  | .body => true
  | .crcHigh => true
  | .crcLow => true

/-- The receiver returns to HUNT: no frame is held and no gap timer runs (R54, R57). -/
def LinkReceiver.toHunt (l : LinkReceiver) : LinkReceiver :=
  { l with rx := .hunt, gapFrom := none, lenByte := 0#8, body := [], crcHigh := 0#8 }

/-- The receiver goes on in a state, the gap timer running from now (R57). -/
def LinkReceiver.goOn (l : LinkReceiver) (now : Moment) (rx : RxState) : LinkReceiver :=
  { l with rx := rx, gapFrom := some now }

def Device.withLink (p : Device) (f : LinkReceiver → LinkReceiver) : Device := { p with link := f p.link }

/-- R52, R55, R57: the frame in progress is abandoned and counted; the receiver returns to HUNT. -/
def Device.abandonFrame (p : Device) (f : LinkCounters → LinkCounters) : Device :=
  (p.withLink LinkReceiver.toHunt).countLinkError f

/-- R55: the byte received in LENGTH. -/
def Device.lengthByte (p : Device) (b : Byte) : Device :=
  if 1 ≤ b.toNat ∧ b.toNat ≤ 32 then
    p.withLink fun l => { l.goOn p.now .body with lenByte := b, body := [] }
  else p.abandonFrame LinkCounters.countFormatErr

/-- R54: a byte received in BODY. -/
def LinkReceiver.bodyByteIn (l : LinkReceiver) (now : Moment) (b : Byte) : LinkReceiver :=
  { l.goOn now (if l.lenByte.toNat ≤ l.body.length + 1 then .crcHigh else .body) with
    body := l.body ++ [b] }

/-- R54: a received byte moves the frame receiver. -/
def Device.rxByte (p : Device) (b : Byte) : Device :=
  match p.link.rx with
  | .hunt => if b = Config.sync1 then p.withLink fun l => l.goOn p.now .sync1 else p
  | .sync1 =>
    if b = Config.sync2 then p.withLink fun l => l.goOn p.now .length
    else if b = Config.sync1 then p.withLink fun l => l.goOn p.now .sync1
    else p.withLink LinkReceiver.toHunt
  | .length => p.lengthByte b
  | .body => p.withLink fun l => l.bodyByteIn p.now b
  | .crcHigh => p.withLink fun l => { l.goOn p.now .crcLow with crcHigh := b }
  | .crcLow =>
    (p.withLink LinkReceiver.toHunt).checkFrame p.link.lenByte p.link.body (half p.link.crcHigh b)

/-- R52: a framing error. -/
def Device.framingError (p : Device) : Device :=
  if p.link.rx.inFrame then p.abandonFrame LinkCounters.countFormatErr
  else p.withLink LinkReceiver.toHunt

/-- R52: a character reaches its stop bit, now. Without a start bit seen, or with the character discarded since
(R53), none is in progress and nothing is received. A stop bit sampled low leaves the line low: no start bit
is seen until it has returned high. -/
def Device.characterReceived (p : Device) (stopHigh : Bool) (b : Byte) : Device :=
  if p.link.inChar then
    let q := p.withLink fun l => { l with inChar := false, lowAt := if stopHigh then none else some p.now }
    if stopHigh then q.rxByte b else q.framingError
  else p

/-- R57: the gap timer expires: a frame in progress is abandoned with GAP_ABORT, and SYNC1 returns to HUNT
without count. -/
def Device.gapExpire (p : Device) : Device :=
  if p.link.rx.inFrame then p.abandonFrame LinkCounters.countGapAbort
  else p.withLink LinkReceiver.toHunt

/-- R57: more than the gap limit has passed with the gap timer running. -/
def Device.gapOverdue (p : Device) : Bool :=
  match p.link.gapFrom with
  | some f => decide (f + ms Config.gapLimitMs < p.now)
  | none => false

/-- R52: a start bit can be seen now: no character is in progress, and the line has returned high since a stop
bit that was sampled low, as a falling edge of a later moment shows. -/
def LinkReceiver.seesStart (l : LinkReceiver) (now : Moment) : Bool :=
  !l.inChar && l.lowAt.all fun t => decide (t < now)

/-- R52, R57: a start bit, now: the gap timer stops and the frame continues; a timer already more than 2 ms
old has expired first. A falling edge inside a character is no start bit, and in a break none is seen. -/
def Device.startBit (p : Device) : Device :=
  if p.link.seesStart p.now then
    (if p.gapOverdue then p.gapExpire else p).withLink fun l =>
      { l with inChar := true, lowAt := none, gapFrom := none }
  else p

/-- R57: the running gap timer expires; time passes to that moment (log entries 5 and 19). -/
def Device.gapTimerExpiry (p : Device) : Device :=
  match p.link.gapFrom with
  | some f => (p.passTo (f + ms Config.gapLimitMs)).gapExpire
  | none => p

/-- CHARACTER_RECEIVED (R52, R54 to R63, R79 to R83). -/
def execCharacterReceived (moment : Moment) (stopHigh : Bool) (data : Byte) (s : State) :
    Host.Outcome State Fault Refusal :=
  s.run fun p => (p.passTo moment).characterReceived stopHigh data

/-- START_BIT (R52, R57). -/
def execStartBit (moment : Moment) (s : State) : Host.Outcome State Fault Refusal :=
  s.run fun p => (p.passTo moment).startBit

/-- GAP_TIMER_EXPIRY (R57). -/
def execGapTimerExpiry (s : State) : Host.Outcome State Fault Refusal :=
  s.run Device.gapTimerExpiry

/-! ## Commands 10h to 13h, 23h and 24h -/

/-- R53: SET LINK RATE. -/
def Device.setLinkRate (rate : Byte) (p : Device) : Answer :=
  match rateParam rate with
  | none => p.refuse .badValue
  | some r => (p.withLink fun l => { l.toHunt with rate := r, inChar := false }).accept .ok

/-- R61: SET JOIN FILTER. -/
def Device.setJoinFilter (value mask : Addr) (p : Device) : Answer :=
  (p.withLink fun l => { l with joinValue := value, joinMask := mask }).accept .ok

/-- R67: SET FEEDER ID. -/
def Device.setFeederId (id : Byte) (p : Device) : Answer :=
  if Config.amnesiaId ≤ id.toNat then p.refuse .badValue
  else (p.withLink fun l => { l with feederId := id.toNat, amnesia := false }).accept .ok

/-- R64: the nine counters as result bytes. -/
def LinkCounters.bytes (c : LinkCounters) : List Byte :=
  natHalf c.crcErr ++ natHalf c.formatErr ++ natHalf c.gapAbort ++ natHalf c.unsupported
    ++ natHalf c.foreign ++ natHalf c.unknown ++ natHalf c.late ++ natHalf c.early ++ natHalf c.duplicate

/-- R64: READ LINK COUNTERS. -/
def Device.readLinkCounters (p : Device) : Answer :=
  (p.withCounters fun _ => LinkCounters.zero,
    [ResultCode.ok.byte] ++ p.link.counters.bytes ++ [p.link.rate.code] ++ addrBytes p.link.joinValue
      ++ addrBytes p.link.joinMask)

/-- R50: one slot's entry of READ STRANGERS. -/
def strangerBytes : Option Sighting → List Byte
  | some g =>
    [flagByte true] ++ addrBytes g.addr ++ halfBytes g.lastEpoch ++ [phaseSetByte g.phases, natByte g.count]
  | none => List.replicate 8 0#8

/-- R50: READ STRANGERS. -/
def Device.readStrangers (p : Device) : Answer :=
  (p, [ResultCode.ok.byte] ++ strangerBytes (p.strangers.get 0) ++ strangerBytes (p.strangers.get 1)
    ++ strangerBytes (p.strangers.get 2) ++ [natByte p.overwrites])

/-- R51: CLEAR STRANGER. -/
def Device.clearStranger (slot : Byte) (p : Device) : Answer :=
  match indexParam 3 slot with
  | none => p.refuse .badIndex
  | some k =>
    Device.accept
      { p with
        strangers := p.strangers.set k none
        overwrites := if k = 2 then 0 else p.overwrites } .ok

/-- SET_LINK_RATE (R53). -/
def execSetLinkRate (rate : Byte) (s : State) : Host.Outcome State Fault Refusal :=
  s.run fun p => Device.taken (p.setLinkRate rate)

/-- SET_JOIN_FILTER (R61). -/
def execSetJoinFilter (value mask : Addr) (s : State) : Host.Outcome State Fault Refusal :=
  s.run fun p => Device.taken (p.setJoinFilter value mask)

/-- SET_FEEDER_ID (R67). -/
def execSetFeederId (id : Byte) (s : State) : Host.Outcome State Fault Refusal :=
  s.run fun p => Device.taken (p.setFeederId id)

/-- READ_LINK_COUNTERS (R64). -/
def execReadLinkCounters (s : State) : Host.Outcome State Fault Refusal :=
  s.run fun p => Device.taken p.readLinkCounters

/-- READ_STRANGERS (R50). -/
def execReadStrangers (s : State) : Host.Outcome State Fault Refusal :=
  s.run fun p => Device.taken p.readStrangers

/-- CLEAR_STRANGER (R51). -/
def execClearStranger (slot : Byte) (s : State) : Host.Outcome State Fault Refusal :=
  s.run fun p => Device.taken (p.clearStranger slot)

end Sys2Proof.Machine
end

