-- ==== Sys2Proof/Machine/Nodes.lean ====
section
/-! DEFINITION. The node commands 20h to 22h (spec/02_line_sensors_and_the_node_table.md). -/

namespace Sys2Proof.Machine

/-- R36: the record of a newly bound node. -/
def Node.fresh (addr : Addr) (s : PhaseSet) : Node :=
  { bound := true, addr := addr, phases := s, health := .unheard, miss := 0, refs := 0, lastHeard := none }

/-- R36: the Stranger Slots once an address is bound: a slot holding it is emptied, the overwrite count
kept. -/
def Device.dropStranger (p : Device) (a : Addr) : Device :=
  { p with strangers := p.strangers.mapIdx fun _ g => if holdsAddr a g then none else g }

/-- R35, R36: BIND NODE. -/
def Device.bindNode (node : Byte) (addr : Addr) (phs : Byte) (p : Device) : Answer :=
  match indexParam 64 node with
  | none => p.refuse .badIndex
  | some n =>
    match phaseSetParam phs with
    | none => p.refuse .badValue
    | some s =>
      if (p.nodes.get n).bound then p.refuse .inUse
      else if (p.nodeOf addr).isSome then p.refuse .duplicateAddress
      else ((p.setNode n (Node.fresh addr s)).dropStranger addr).accept .ok

/-- R37: UNBIND NODE, no work being in hand. -/
def Device.unbind (node : Byte) (p : Device) : Answer :=
  match indexParam 64 node with
  | none => p.refuse .badIndex
  | some n =>
    if (p.nodes.get n).bound = false then p.refuse .badState
    else if 0 < (p.nodes.get n).refs then p.refuse .inUse
    else ((p.setNode n Node.unbound).removeFromSlots n).accept .ok

/-- R37, R83: UNBIND NODE, taken when the work in hand has ended. -/
def Device.unbindNode (node : Byte) (p : Device) : Answer := p.finishWork.unbind node

/-- R38: the bytes of a node record. -/
def Node.bytes (r : Node) : List Byte :=
  [flagByte r.bound] ++ addrBytes r.addr
    ++ [phaseSetByte r.phases, r.health.code, natByte r.miss, natByte r.refs, flagByte r.lastHeard.isSome]
    ++ epochBytes r.lastHeard

/-- R38: READ NODE. -/
def Device.readNode (node : Byte) (p : Device) : Answer :=
  match indexParam 64 node with
  | none => p.refuse .badIndex
  | some n => (p, [ResultCode.ok.byte] ++ (p.nodes.get n).bytes)

/-- BIND_NODE (R35, R36). -/
def execBindNode (node : Byte) (addr : Addr) (phs : Byte) (s : State) :
    Host.Outcome State Fault Refusal :=
  s.run fun p => Device.taken (p.bindNode node addr phs)

/-- UNBIND_NODE (R37). -/
def execUnbindNode (node : Byte) (s : State) : Host.Outcome State Fault Refusal :=
  s.run fun p => Device.taken (p.unbindNode node)

/-- READ_NODE (R38). -/
def execReadNode (node : Byte) (s : State) : Host.Outcome State Fault Refusal :=
  s.run fun p => Device.taken (p.readNode node)

end Sys2Proof.Machine
end

