-- ==== Sys2Proof/Machine/Port.lean ====
section
/-! DEFINITION. SPI transactions and port states (spec/09_the_host_port.md, 9.1 to 9.3), byte by byte. The
byte on MISO is fixed when it begins: the first when CS_N falls, each later one when the byte before it is
complete (R168). The byte that begins as a command completes shows EXECUTING, or, by the free value of log
entry 12, the state after the command was taken (R173, R178; `Device.settleStatus`). A row that comes where the
port cannot take it changes nothing (log entry 6). -/

namespace Sys2Proof.Machine

/-- The Host Port changed. -/
def Device.withPort (p : Device) (f : HostPort → HostPort) : Device := { p with port := f p.port }

/-- R168, R169: the next byte on MISO begins: the status byte as it now stands. -/
def Device.beginStatus (p : Device) : Device :=
  p.withPort fun h => { h with miso := some p.statusByte }

/-- R168, R175, R176: the next byte on MISO begins in a READ or ignored transaction. -/
def Device.beginByte (p : Device) (b : Byte) : Device := p.withPort fun h => { h with miso := some b }

/-- R175: the result byte at the read position; 00h when there is none. -/
def HostPort.resultByte (h : HostPort) : Byte := h.result.getD h.readPos 0#8

/-- R168: CS_N falls: a transaction starts and its first byte, the status byte, begins (R169). With CS_N
low since a reset the port takes nothing (R177). -/
def Device.transactionStart (p : Device) : Device :=
  if p.port.csLow then p
  else (p.withPort fun h => { h with csLow := true, xfer := .access }).beginStatus

/-- R169, R175, R176: the kind of transaction that an access byte fixes. -/
def HostPort.accessKind (h : HostPort) (b : Byte) : Transfer :=
  if b = 0xA0#8 then .status
  else if b = 0xA1#8 then .write
  else if b = 0xA2#8 then (if h.state = .result then .readResult else .readNothing)
  else .ignored

/-- R169: the access byte is complete, and the next byte begins. -/
def Device.accessByte (b : Byte) (p : Device) : Device :=
  if p.port.xfer = .access then
    let q := p.withPort fun h => { h with xfer := h.accessKind b }
    match q.port.xfer with
    | .status => q.beginStatus
    | .write => q.beginStatus
    | .readResult => q.beginByte q.port.resultByte
    | .readNothing => q.beginByte 0#8
    | .ignored => q.beginByte 0#8
    | .none => q
    | .access => q
  else p

/-- R171: a code byte is taken, now. -/
def HostPort.takeCode (h : HostPort) (now : Moment) (b : Byte) : HostPort :=
  match paramCount b with
  | none => h.giveResult [ResultCode.unknownCommand.byte]
  | some 0 => { h with state := .executing, cmd := [b], begun := some now }
  | some (_ + 1) => { h with state := .collecting, cmd := [b] }

/-- CODE_BYTE (R171): a byte of a WRITE transaction, in IDLE. -/
def Device.codeByte (b : Byte) (p : Device) : Device :=
  if p.port.xfer = .write ∧ p.port.state = .idle then (p.withPort fun h => h.takeCode p.now b).beginStatus
  else p

/-- R172: the parameter count that the code in the command buffer fixes. -/
def HostPort.wanted (h : HostPort) : Nat := ((h.cmd.head?).bind paramCount).getD 0

/-- R172: a parameter byte is stored, now; the last one completes the command. -/
def HostPort.takeParameter (h : HostPort) (now : Moment) (b : Byte) : HostPort :=
  if h.wanted ≤ h.cmd.length then
    { h with cmd := h.cmd ++ [b], state := .executing, begun := some now }
  else { h with cmd := h.cmd ++ [b] }

/-- PARAMETER_BYTE (R172): a byte of a WRITE transaction, in COLLECTING. -/
def Device.parameterByte (b : Byte) (p : Device) : Device :=
  if p.port.xfer = .write ∧ p.port.state = .collecting then
    (p.withPort fun h => h.takeParameter p.now b).beginStatus
  else p

/-- OVERRUN_BYTE (R174): a byte of a WRITE transaction, in EXECUTING or RESULT, is discarded. -/
def Device.overrunByte (_b : Byte) (p : Device) : Device :=
  if p.port.xfer = .write ∧ (p.port.state = .executing ∨ p.port.state = .result) then
    (p.withPort fun h => { h with overrun := true, begun := none }).beginStatus
  else p

/-- R175: a result byte is consumed; after the last one the buffer is emptied and the port goes to IDLE. -/
def HostPort.consume (h : HostPort) : HostPort :=
  if h.result.length ≤ h.readPos + 1 then { h with state := .idle, result := [], readPos := 0 }
  else { h with readPos := h.readPos + 1 }

/-- RESULT_BYTE_READ (R175): a byte of a READ transaction that delivers, in RESULT. -/
def Device.resultByteRead (p : Device) : Device :=
  if p.port.xfer = .readResult ∧ p.port.state = .result then
    let q := p.withPort HostPort.consume
    q.beginByte q.port.resultByte
  else p

/-- R179: every mark that the completed status byte showed set is cleared. -/
def HostPort.clearShown (shown : Byte) (h : HostPort) : HostPort :=
  { h with overrun := h.overrun && !shown.getLsbD 1, abandoned := h.abandoned && !shown.getLsbD 0 }

/-- STATUS_BYTE_READ (R179): a status byte is completed in a STATUS transaction, after the access byte. -/
def Device.statusByteRead (p : Device) : Device :=
  if p.port.xfer = .status then
    (p.withPort fun h => h.clearShown (h.miso.getD 0#8)).beginStatus
  else p

/-- R172: CS_N rises; a command being collected is abandoned. -/
def HostPort.release (h : HostPort) : HostPort :=
  { h with csLow := false, xfer := .none, miso := none, begun := none }

def HostPort.abandon (h : HostPort) : HostPort :=
  { h with state := .idle, cmd := [], abandoned := true }

/-- TRANSACTION_END (R168, R172, R177). -/
def Device.transactionEnd (p : Device) : Device :=
  if p.port.csLow then
    if p.port.state = .collecting then p.withPort fun h => h.abandon.release
    else p.withPort HostPort.release
  else p

/-- TRANSACTION_START (R168). -/
def execTransactionStart (moment : Moment) (s : State) : Host.Outcome State Fault Refusal :=
  s.run fun p => (p.passTo moment).transactionStart

/-- ACCESS_BYTE (R169). -/
def execAccessByte (b : Byte) (s : State) : Host.Outcome State Fault Refusal :=
  s.run fun p => p.accessByte b

/-- CODE_BYTE (R171). -/
def execCodeByte (b : Byte) (s : State) : Host.Outcome State Fault Refusal :=
  s.run fun p => p.codeByte b

/-- PARAMETER_BYTE (R172). -/
def execParameterByte (b : Byte) (s : State) : Host.Outcome State Fault Refusal :=
  s.run fun p => p.parameterByte b

/-- OVERRUN_BYTE (R174). -/
def execOverrunByte (b : Byte) (s : State) : Host.Outcome State Fault Refusal :=
  s.run fun p => p.overrunByte b

/-- RESULT_BYTE_READ (R175). -/
def execResultByteRead (s : State) : Host.Outcome State Fault Refusal := s.run Device.resultByteRead

/-- STATUS_BYTE_READ (R179). -/
def execStatusByteRead (s : State) : Host.Outcome State Fault Refusal := s.run Device.statusByteRead

/-- TRANSACTION_END (R168, R172). -/
def execTransactionEnd (s : State) : Host.Outcome State Fault Refusal := s.run Device.transactionEnd

end Sys2Proof.Machine
end

