-- ==== Sys2Proof/Machine/Profiles.lean ====
section
/-! DEFINITION. The profile commands 18h and 19h (spec/06_profiles_and_hazard_levels.md, 6.2). -/

namespace Sys2Proof.Machine

/-- R118, first stage: each field clamped into the range of R115. -/
def Profile.clampFields (f : Profile) : Profile :=
  { liveLevel := clamp 1 2047 f.liveLevel
    openRatio := clamp 0 2047 f.openRatio
    openStep := clamp 1 64 f.openStep
    openSuspect := clamp 1 255 f.openSuspect
    openTrip := clamp 1 255 f.openTrip
    leakMin := clamp 1 32767 f.leakMin
    leakUnit := clamp 1 32767 f.leakUnit
    leakDecay := clamp 0 255 f.leakDecay
    leakSuspect := clamp 1 255 f.leakSuspect
    leakTrip := clamp 1 255 f.leakTrip
    reverseTol := clamp 0 32767 f.reverseTol
    settleEpochs := clamp 0 255 f.settleEpochs }

/-- R118, second stage: each suspect level brought down to its trip level. -/
def Profile.orderLevels (f : Profile) : Profile :=
  { f with openSuspect := min f.openSuspect f.openTrip, leakSuspect := min f.leakSuspect f.leakTrip }

/-- R118: the profile that sent values give. -/
def Profile.ofSent (f : Profile) : Profile := f.clampFields.orderLevels

/-- R117: the fields as sent, taken as numbers. -/
def sentProfile (liveLevel openRatio : Half) (openStep openSuspect openTrip : Byte)
    (leakMin leakUnit : Half) (leakDecay leakSuspect leakTrip : Byte) (reverseTol : Half)
    (settleEpochs : Byte) : Profile :=
  { liveLevel := liveLevel.toNat, openRatio := openRatio.toNat, openStep := openStep.toNat,
    openSuspect := openSuspect.toNat, openTrip := openTrip.toNat, leakMin := leakMin.toNat,
    leakUnit := leakUnit.toNat, leakDecay := leakDecay.toNat, leakSuspect := leakSuspect.toNat,
    leakTrip := leakTrip.toNat, reverseTol := reverseTol.toNat, settleEpochs := settleEpochs.toNat }

/-- R117, R118: LOAD PROFILE, its fields gathered. -/
def Device.loadProfile (index : Byte) (sent : Profile) (p : Device) : Answer :=
  match indexParam 8 index with
  | none => p.refuse .badIndex
  | some i =>
    Device.accept { p with profiles := p.profiles.set i sent.ofSent }
      (okOrClamped (decide (sent.ofSent ≠ sent)))

/-- R121: the twelve fields in the order and sizes of LOAD PROFILE. -/
def Profile.bytes (f : Profile) : List Byte :=
  natHalf f.liveLevel ++ natHalf f.openRatio
    ++ [natByte f.openStep, natByte f.openSuspect, natByte f.openTrip]
    ++ natHalf f.leakMin ++ natHalf f.leakUnit
    ++ [natByte f.leakDecay, natByte f.leakSuspect, natByte f.leakTrip]
    ++ natHalf f.reverseTol ++ [natByte f.settleEpochs]

/-- R121: READ PROFILE. -/
def Device.readProfile (index : Byte) (p : Device) : Answer :=
  match indexParam 8 index with
  | none => p.refuse .badIndex
  | some i => (p, [ResultCode.ok.byte] ++ (p.profiles.get i).bytes)

/-- LOAD_PROFILE (R117, R118). -/
def execLoadProfile (index : Byte) (liveLevel openRatio : Half) (openStep openSuspect openTrip : Byte)
    (leakMin leakUnit : Half) (leakDecay leakSuspect leakTrip : Byte) (reverseTol : Half)
    (settleEpochs : Byte) (s : State) : Host.Outcome State Fault Refusal :=
  s.run fun p => Device.taken (p.loadProfile index
    (sentProfile liveLevel openRatio openStep openSuspect openTrip leakMin leakUnit leakDecay leakSuspect
      leakTrip reverseTol settleEpochs))

/-- READ_PROFILE (R121). -/
def execReadProfile (index : Byte) (s : State) : Host.Outcome State Fault Refusal :=
  s.run fun p => Device.taken (p.readProfile index)

end Sys2Proof.Machine
end

