-- ==== Sys2Proof/Machine/Resets.lean ====
section
/-! DEFINITION. The two resets, each one step (log entry 9): the values are those of ResetValues.lean. -/

namespace Sys2Proof.Machine

/-- POWER_ON_RESET (R4, R34, R65, R68, R77, R116, R129, R160, R162, R170): every state at its reset value,
the profiles at the defaults. The model's own clock and count of choices go on (log entries 1 and 3). -/
def execPowerOnReset (pins : ResetPins) (s : State) : Host.Outcome State Fault Refusal :=
  s.run fun p => Device.afterReset pins (Table.replicate 8 Profile.default) p.now p.choices

/-- RST_N_RESET (R116): every state at its reset value, but the Profile Table keeps its contents. -/
def execRstNReset (pins : ResetPins) (s : State) : Host.Outcome State Fault Refusal :=
  s.run fun p => Device.afterReset pins p.profiles p.now p.choices

end Sys2Proof.Machine
end

