-- ==== Sys2Proof/Machine/Sections.lean ====
section
/-! DEFINITION. The section commands 30h to 38h (spec/01_section_records.md). -/

namespace Sys2Proof.Machine

/-! ## Shared parts -/

/-- R13, R17: a tap as written, clamped. -/
def clampTap (t : Half) : Nat := min Config.currentMax t.toNat

/-- The three tap fields as sent. -/
def tapFields (tapA tapB tapC : Half) : PerPhase Half := ⟨tapA, tapB, tapC⟩

/-- R17, R20: the taps of the record's phases written, the others left. -/
def SectionRec.writeTaps (t : PerPhase Half) (r : SectionRec) : SectionRec :=
  { r with tap := PerPhase.ofFn fun ph => if r.phases.get ph then clampTap (t.get ph) else r.tap.get ph }

/-- R17, R20: some written tap was clamped. -/
def SectionRec.tapClamped (t : PerPhase Half) (r : SectionRec) : Bool :=
  allPhases.any fun ph => r.phases.get ph && decide (Config.currentMax < (t.get ph).toNat)

/-- R11: a node's reference count changed. -/
def Device.changeRefs (p : Device) (f : NodeIx → Nat → Nat) : Device :=
  { p with nodes := p.nodes.mapIdx fun n r => { r with refs := f n r.refs } }

/-- R9: the node is the upstream node of a non-VACANT section. -/
def Device.isUpstream (p : Device) (n : NodeIx) : Bool :=
  p.sections.any fun _ r => r.state != .vacant && r.upstream == n

/-- R10: the node is in the downstream list of a non-VACANT section other than `i`. -/
def Device.isDownstreamElsewhere (p : Device) (i : SecIx) (n : NodeIx) : Bool :=
  p.sections.any fun j r => j != i && r.state != .vacant && decide (n ∈ r.downstream)

/-! ## CREATE SECTION (R14, R15) -/

/-- R15: the record that CREATE SECTION makes. -/
def SectionRec.created (u : NodeIx) (z : ZoneIx) (s : PhaseSet) (pr : ProfIx) : SectionRec :=
  { SectionRec.vacant with state := .draft, upstream := u, zone := z, phases := s, profile := pr }

/-- R14: the state check and the topology checks, in order. -/
def Device.createCheck (p : Device) (i : SecIx) (u : NodeIx) (s : PhaseSet) : Option ResultCode :=
  if (p.sections.get i).state ≠ .vacant then some .badState
  else if (p.nodes.get u).bound = false then some .badTopology
  else if p.isUpstream u then some .inUse
  else if PhaseSet.contains (p.nodes.get u).phases s = false then some .badTopology
  else none

/-- R11, R15: an accepted CREATE SECTION. -/
def Device.create (p : Device) (i : SecIx) (u : NodeIx) (z : ZoneIx) (s : PhaseSet) (pr : ProfIx) :
    Device :=
  (p.setSection i (SectionRec.created u z s pr)).changeRefs fun n k => if n = u then k + 1 else k

/-- R13 to R15: CREATE SECTION. -/
def Device.createSection (sec upstream zone phs profile : Byte) (p : Device) : Answer :=
  match indexParam 128 sec, indexParam 64 upstream, indexParam 8 profile with
  | some i, some u, some pr =>
    match indexParam 4 zone, phaseSetParam phs with
    | some z, some s =>
      match p.createCheck i u s with
      | some code => p.refuse code
      | none => (p.create i u z s pr).accept .ok
    | _, _ => p.refuse .badValue
  | _, _, _ => p.refuse .badIndex

/-! ## EDIT SECTION (R16, R17) -/

/-- R16: the new list, from the four node fields; none when a field is out of range. -/
def newDownstream (n1 n2 n3 n4 : Byte) : Option (List NodeIx) :=
  match nodeField n1, nodeField n2, nodeField n3, nodeField n4 with
  | some a, some b, some c, some d => some ([a, b, c, d].filterMap id)
  | _, _, _, _ => none

/-- R16: the five checks on one node of the new list, the nodes before it given. -/
def Device.editNodeCheck (p : Device) (i : SecIx) (earlier : List NodeIx) (n : NodeIx) :
    Option ResultCode :=
  let r := p.sections.get i
  if (p.nodes.get n).bound = false then some .badTopology
  else if n = r.upstream then some .badTopology
  else if n ∈ earlier then some .badTopology
  else if PhaseSet.contains (p.nodes.get n).phases r.phases = false then some .badTopology
  else if p.isDownstreamElsewhere i n then some .inUse
  else none

/-- R16: the nodes of the new list examined in list order; the first failed check decides. -/
def Device.editCheck (p : Device) (i : SecIx) : List NodeIx → List NodeIx → Option ResultCode
  | _, [] => none
  | earlier, n :: rest =>
    match p.editNodeCheck i earlier n with
    | some code => some code
    | none => p.editCheck i (earlier ++ [n]) rest

/-- R11: the change of a node's count when a list replaces another. -/
def listDifference (old new : List NodeIx) (n : NodeIx) (k : Nat) : Nat :=
  if n ∈ new then (if n ∈ old then k else k + 1) else (if n ∈ old then k - 1 else k)

/-- R11, R17: an accepted EDIT SECTION. -/
def Device.edit (p : Device) (i : SecIx) (new : List NodeIx) (t : PerPhase Half) : Device :=
  (p.setSection i { (p.sections.get i).writeTaps t with downstream := new }).changeRefs
    (listDifference (p.sections.get i).downstream new)

/-- R13, R16, R17: EDIT SECTION. -/
def Device.editSection (sec n1 n2 n3 n4 : Byte) (tapA tapB tapC : Half) (p : Device) : Answer :=
  match indexParam 128 sec, newDownstream n1 n2 n3 n4 with
  | some i, some new =>
    if (p.sections.get i).state ≠ .draft then p.refuse .badState
    else
      match p.editCheck i [] new with
      | some code => p.refuse code
      | none =>
        (p.edit i new (tapFields tapA tapB tapC)).accept
          (okOrClamped ((p.sections.get i).tapClamped (tapFields tapA tapB tapC)))
  | _, _ => p.refuse .badIndex

/-! ## COMMIT, RECALL, TUNE, ACKNOWLEDGE and RETIRE SECTION -/

/-- R18: COMMIT SECTION. -/
def Device.commitSection (sec : Byte) (p : Device) : Answer :=
  match indexParam 128 sec with
  | none => p.refuse .badIndex
  | some i =>
    if (p.sections.get i).state ≠ .draft then p.refuse .badState
    else if p.link.amnesia then p.refuse .notReady
    else (p.place i (p.sections.get i)).accept .ok

/-- R19: a recalled record. -/
def SectionRec.recall (r : SectionRec) : SectionRec := { r.enterDraft with inconsistent := false }

/-- R19: RECALL SECTION. -/
def Device.recallSection (sec : Byte) (p : Device) : Answer :=
  match indexParam 128 sec with
  | none => p.refuse .badIndex
  | some i =>
    match (p.sections.get i).state with
    | .settling => (p.setSection i (p.sections.get i).recall).accept .ok
    | .armed => (p.setSection i (p.sections.get i).recall).accept .ok
    | .suspect => (p.setSection i (p.sections.get i).recall).accept .ok
    | .blind => (p.setSection i (p.sections.get i).recall).accept .ok
    | .dormant => (p.setSection i (p.sections.get i).recall).accept .ok
    | .draft => p.accept .ok
    | .confirmed => p.refuse .badState
    | .isolated => p.refuse .badState
    | .vacant => p.refuse .badState

/-- R20: what TUNE SECTION writes. -/
def SectionRec.tuned (pr : ProfIx) (t : PerPhase Half) (r : SectionRec) : SectionRec :=
  { r.writeTaps t with profile := pr, inconsistent := false }

/-- R20: the states in which TUNE SECTION is accepted. -/
def SecState.tunable : SecState → Bool
  | .draft => true
  | .settling => true
  | .armed => true
  | .suspect => true
  | .blind => true
  | .dormant => true
  | .confirmed => false
  | .isolated => false
  | .vacant => false

/-- R21: where a tuned record goes. -/
def SectionRec.afterTune (prof : Profile) (r : SectionRec) : SectionRec :=
  match r.state with
  | .armed => r.enterSettling prof
  | .suspect => r.enterSettling prof
  | .settling => r.enterSettling prof
  | .draft => r
  | .blind => r
  | .dormant => r
  | .confirmed => r
  | .isolated => r
  | .vacant => r

/-- R20, R21: TUNE SECTION. -/
def Device.tuneSection (sec profile : Byte) (tapA tapB tapC : Half) (p : Device) : Answer :=
  match indexParam 128 sec, indexParam 8 profile with
  | some i, some pr =>
    let r := p.sections.get i
    if r.state.tunable then
      let t := tapFields tapA tapB tapC
      (p.setSection i ((r.tuned pr t).afterTune (p.profiles.get pr))).accept
        (okOrClamped (r.tapClamped t))
    else p.refuse .badState
  | _, _ => p.refuse .badIndex

/-- R22: the record may be acknowledged. -/
def SectionRec.acknowledgeable (r : SectionRec) : Bool :=
  match r.state with
  | .suspect => true
  | .isolated => true
  | .confirmed => r.mark == .withheld || r.mark == .failed
  | .vacant => false
  | .draft => false
  | .settling => false
  | .armed => false
  | .blind => false
  | .dormant => false

/-- R23: what ACKNOWLEDGE SECTION clears before it places the record. -/
def SectionRec.acknowledged (r : SectionRec) : SectionRec :=
  { r with mark := .none, escalated := false, inconsistent := false, cause := none, confirmEpoch := none }

/-- R22, R23: ACKNOWLEDGE SECTION. -/
def Device.acknowledgeSection (sec : Byte) (p : Device) : Answer :=
  match indexParam 128 sec with
  | none => p.refuse .badIndex
  | some i =>
    if (p.sections.get i).acknowledgeable then
      (p.place i (p.sections.get i).acknowledged).accept .ok
    else p.refuse .badState

/-- R24: the record may be retired. -/
def SectionRec.retirable (r : SectionRec) : Bool :=
  match r.state with
  | .vacant => false
  | .confirmed => r.mark != .pending
  | .draft => true
  | .settling => true
  | .armed => true
  | .suspect => true
  | .isolated => true
  | .blind => true
  | .dormant => true

/-- R11, R24: an accepted RETIRE SECTION. -/
def Device.retire (p : Device) (i : SecIx) : Device :=
  (p.setSection i SectionRec.vacant).changeRefs fun n k =>
    if n ∈ (p.sections.get i).nodes then k - 1 else k

/-- R24: RETIRE SECTION. -/
def Device.retireSection (sec : Byte) (p : Device) : Answer :=
  match indexParam 128 sec with
  | none => p.refuse .badIndex
  | some i => if (p.sections.get i).retirable then (p.retire i).accept .ok else p.refuse .badState

/-! ## READ SECTION (R25, R26, R185) -/

/-- R25: the four downstream fields: the list, then 255 in each unused field. -/
def downstreamBytes (l : List NodeIx) : List Byte :=
  (List.range 4).map fun k =>
    match l[k]? with
    | some n => natByte n.val
    | none => 255#8

/-- R185: the cause byte. -/
def causeByte : Option Cause → Byte
  | some c =>
    bits8 true (c.kind == .ground) false false false false (c.phase == .c) (c.phase == .b)
  | none => 0#8

/-- R185: the record flags byte and the epoch presence byte. -/
def SectionRec.flagsByte (r : SectionRec) : Byte :=
  bits8 false false false false false false r.inconsistent r.escalated
def SectionRec.presenceByte (r : SectionRec) : Byte :=
  bits8 false false false false false false r.confirmEpoch.isSome r.firstHit.isSome

/-- R185: offsets 1 to 30 of a non-VACANT record. -/
def SectionRec.liveBytes (r : SectionRec) : List Byte :=
  [natByte r.state.code, natByte r.upstream.val] ++ downstreamBytes r.downstream
    ++ [natByte r.zone.val, phaseSetByte r.phases, natByte r.profile.val]
    ++ natHalf r.tap.a ++ natHalf r.tap.b ++ natHalf r.tap.c
    ++ [natByte r.openScore.a, natByte r.openScore.b, natByte r.openScore.c,
        natByte r.leakScore.a, natByte r.leakScore.b, natByte r.leakScore.c,
        natByte r.settle, natByte r.mark.code, r.flagsByte, causeByte r.cause, r.presenceByte]
    ++ epochBytes r.firstHit ++ epochBytes r.confirmEpoch

/-- R26, R185: offsets 1 to 30; a VACANT record reads 0 at every one. -/
def SectionRec.bytes (r : SectionRec) : List Byte :=
  if r.state = .vacant then List.replicate 30 0#8 else r.liveBytes

/-- R25: READ SECTION. -/
def Device.readSection (sec : Byte) (p : Device) : Answer :=
  match indexParam 128 sec with
  | none => p.refuse .badIndex
  | some i => (p, [ResultCode.ok.byte] ++ (p.sections.get i).bytes)

/-! ## SCAN SECTIONS (R27, R28) -/

/-- R27: a comparison of a value with the key. -/
def ScanCompare.holds (c : ScanCompare) (value key : Nat) : Bool :=
  match c with
  | .equal => value == key
  | .atMost => decide (value ≤ key)
  | .atLeast => decide (key ≤ value)

/-- R27: a record meets the test. -/
def SectionRec.scanMatches (f : ScanField) (c : ScanCompare) (key : Nat) (r : SectionRec) : Bool :=
  match f with
  | .state => c.holds r.state.code key
  | .zone => c.holds r.zone.val key
  | .upstream => c.holds r.upstream.val key
  | .anyNode => r.nodes.any fun n => n.val == key
  | .maxOpen => c.holds (highest r.openScore) key
  | .maxLeak => c.holds (highest r.leakScore) key

/-- R27: the comparison used; for ANY NODE the comparison byte is not examined and EQUAL is taken. -/
def scanComparison (f : ScanField) (b : Byte) : Option ScanCompare :=
  match f with
  | .anyNode => some .equal
  | .state => scanCompareParam b
  | .zone => scanCompareParam b
  | .upstream => scanCompareParam b
  | .maxOpen => scanCompareParam b
  | .maxLeak => scanCompareParam b

/-- R28: the first non-VACANT record at or after the start index that meets the test. -/
def Device.scanFrom (p : Device) (start : SecIx) (f : ScanField) (c : ScanCompare) (key : Nat) :
    Option SecIx :=
  (List.finRange 128).find? fun i =>
    decide (start ≤ i) && (p.sections.get i).state != .vacant
      && (p.sections.get i).scanMatches f c key

/-- R28: the bytes that follow the OK of a record found. -/
def SectionRec.scanBytes (i : SecIx) (r : SectionRec) : List Byte :=
  [natByte i.val, natByte r.state.code, natByte r.zone.val, natByte (highest r.openScore),
    natByte (highest r.leakScore)]

/-- R27, R28: SCAN SECTIONS. -/
def Device.scanSections (start field comparison key : Byte) (p : Device) : Answer :=
  match indexParam 128 start with
  | none => p.refuse .badIndex
  | some st =>
    match scanFieldParam field with
    | none => p.refuse .badValue
    | some f =>
      match scanComparison f comparison with
      | none => p.refuse .badValue
      | some c =>
        match p.scanFrom st f c key.toNat with
        | some i => (p, [ResultCode.ok.byte] ++ (p.sections.get i).scanBytes i)
        | none => p.accept .none

/-! ## The rows -/

/-- CREATE_SECTION (R14, R15). -/
def execCreateSection (sec upstream zone phs profile : Byte) (s : State) :
    Host.Outcome State Fault Refusal :=
  s.run fun p => Device.taken (p.createSection sec upstream zone phs profile)

/-- EDIT_SECTION (R16, R17). -/
def execEditSection (sec n1 n2 n3 n4 : Byte) (tapA tapB tapC : Half) (s : State) :
    Host.Outcome State Fault Refusal :=
  s.run fun p => Device.taken (p.editSection sec n1 n2 n3 n4 tapA tapB tapC)

/-- COMMIT_SECTION (R18). -/
def execCommitSection (sec : Byte) (s : State) : Host.Outcome State Fault Refusal :=
  s.run fun p => Device.taken (p.commitSection sec)

/-- RECALL_SECTION (R19). -/
def execRecallSection (sec : Byte) (s : State) : Host.Outcome State Fault Refusal :=
  s.run fun p => Device.taken (p.recallSection sec)

/-- TUNE_SECTION (R20, R21). -/
def execTuneSection (sec profile : Byte) (tapA tapB tapC : Half) (s : State) :
    Host.Outcome State Fault Refusal :=
  s.run fun p => Device.taken (p.tuneSection sec profile tapA tapB tapC)

/-- ACKNOWLEDGE_SECTION (R22, R23). -/
def execAcknowledgeSection (sec : Byte) (s : State) : Host.Outcome State Fault Refusal :=
  s.run fun p => Device.taken (p.acknowledgeSection sec)

/-- RETIRE_SECTION (R24). -/
def execRetireSection (sec : Byte) (s : State) : Host.Outcome State Fault Refusal :=
  s.run fun p => Device.taken (p.retireSection sec)

/-- READ_SECTION (R25, R26, R185). -/
def execReadSection (sec : Byte) (s : State) : Host.Outcome State Fault Refusal :=
  s.run fun p => Device.taken (p.readSection sec)

/-- SCAN_SECTIONS (R27, R28). -/
def execScanSections (start field comparison key : Byte) (s : State) :
    Host.Outcome State Fault Refusal :=
  s.run fun p => Device.taken (p.scanSections start field comparison key)

end Sys2Proof.Machine
end

