-- ==== Sys2Proof/Machine/Zones.lean ====
section
/-! DEFINITION. The zone commands 40h to 43h, SENSE OUTCOME 54h and HOLD PERMIT 50h
(spec/07_protection_zones_and_trip_sequencing.md; spec/08_reclose_permissive_and_alerts.md, R159). -/

namespace Sys2Proof.Machine

/-- R143: record `i` of zone z, CONFIRMED with mark WITHHELD, sends its request. -/
def Device.releaseRecord (z : ZoneIx) (p : Device) (i : SecIx) : Device :=
  if (p.sections.get i).state = .confirmed ∧ (p.sections.get i).mark = .withheld
      ∧ (p.sections.get i).zone = z then
    p.tripRequest i
  else p

/-- R143: the WITHHELD records of zone z send their requests in ascending index. -/
def Device.releaseWithheld (p : Device) (z : ZoneIx) : Device :=
  (List.finRange 128).foldl (Device.releaseRecord z) p

/-- R130: the six settings of a zone. -/
structure ZoneSettings where
  hazard           : Hazard
  tripEnable       : Bool
  escalationEnable : Bool
  tripTimeout      : Nat
  debounce         : Nat
  polarity         : Polarity
deriving DecidableEq, Repr

/-- R130: the settings written. -/
def Zone.withSettings (c : ZoneSettings) (y : Zone) : Zone :=
  { y with hazard := c.hazard, tripEnable := c.tripEnable, escalationEnable := c.escalationEnable,
           tripTimeout := c.tripTimeout, debounce := c.debounce, polarity := c.polarity }

/-- R131: the settings are written, then any edge that the polarity makes is taken, then the requests that
the trip enable releases are made. -/
def Device.applyZone (p : Device) (z : ZoneIx) (c : ZoneSettings) : Device :=
  let q := (p.setZone z ((p.zones.get z).withSettings c)).afterBreaker z (p.zones.get z).isOpen
  if (p.zones.get z).tripEnable = false ∧ c.tripEnable then q.releaseWithheld z else q

/-- R130: the hazard, the enables and the polarity, each as coded; none when one is out of range. -/
def zoneSettings (hazard tripEnable escalationEnable : Byte) (timeout : Half) (debounce polarity : Byte) :
    Option ZoneSettings :=
  match hazardParam hazard, flagParam tripEnable, flagParam escalationEnable, polarityParam polarity with
  | some h, some te, some ee, some pol =>
    some ⟨h, te, ee, clamp 20 2000 timeout.toNat, clamp 0 20 debounce.toNat, pol⟩
  | _, _, _, _ => none

/-- R130, R131: SET ZONE. -/
def Device.setZoneCommand (zone hazard tripEnable escalationEnable : Byte) (timeout : Half)
    (debounce polarity : Byte) (p : Device) : Answer :=
  match indexParam 4 zone with
  | none => p.refuse .badIndex
  | some z =>
    match zoneSettings hazard tripEnable escalationEnable timeout debounce polarity with
    | none => p.refuse .badValue
    | some c =>
      (p.applyZone z c).accept
        (okOrClamped (c.tripTimeout != timeout.toNat || c.debounce != debounce.toNat))

/-- R132: the bytes that follow the OK of READ ZONE. -/
def Device.zoneBytes (p : Device) (z : ZoneIx) : List Byte :=
  let y := p.zones.get z
  [y.hazard.code, flagByte y.tripEnable, flagByte y.escalationEnable] ++ natHalf y.tripTimeout
    ++ [natByte y.debounce, y.polarity.code, flagByte y.isOpen, flagByte (p.energized z), y.seq.code,
        natByte y.causes.length, flagByte y.manual, flagByte y.hold, flagByte (p.permit z)]

/-- R132: READ ZONE. -/
def Device.readZone (zone : Byte) (p : Device) : Answer :=
  match indexParam 4 zone with
  | none => p.refuse .badIndex
  | some z => (p, [ResultCode.ok.byte] ++ p.zoneBytes z)

/-- R152: the contents of ALREADY_OPEN from TRIP ZONE. -/
def manualAlreadyOpen : OutcomeRec :=
  { kind := .alreadyOpen, sectionCauses := false, manual := true, escalated := false, first := none,
    count := 0, overwritten := false }

/-- R144: TRIP ZONE. -/
def Device.tripZone (zone : Byte) (p : Device) : Answer :=
  match indexParam 4 zone with
  | none => p.refuse .badIndex
  | some z =>
    let y := p.zones.get z
    match y.seq with
    | .idle =>
      if y.isOpen then (p.latchOutcome z manualAlreadyOpen).accept .ok
      else (p.setZone z (y.startTrip p.now [] true)).accept .ok
    | .tripping => (p.setZone z { y with manual := true }).accept .ok
    | .hanging => p.refuse .badState

/-- R149: RELEASE TRIP. -/
def Device.releaseTrip (zone : Byte) (p : Device) : Answer :=
  match indexParam 4 zone with
  | none => p.refuse .badIndex
  | some z =>
    match (p.zones.get z).seq with
    | .hanging => (p.setZone z (p.zones.get z).endTrip).accept .ok
    | .idle => p.refuse .badState
    | .tripping => p.refuse .badState

/-- R154: the bytes that follow the OK of SENSE OUTCOME. -/
def OutcomeRec.bytes (z : ZoneIx) (o : OutcomeRec) : List Byte :=
  [natByte z.val, o.kind.code, flagByte o.sectionCauses, flagByte o.manual, flagByte o.escalated,
    flagByte o.first.isSome, natByte (o.first.elim 0 Fin.val), natByte o.count, flagByte o.overwritten]

/-- R154: the lowest-numbered zone whose latch is full. -/
def Device.fullLatch (p : Device) : Option ZoneIx :=
  (List.finRange 4).find? fun z => (p.zones.get z).latch.isSome

/-- R154: SENSE OUTCOME. -/
def Device.senseOutcome (p : Device) : Answer :=
  match p.fullLatch with
  | none => p.accept .none
  | some z =>
    (p.setZone z { p.zones.get z with latch := none },
      [ResultCode.ok.byte] ++ ((p.zones.get z).latch.elim [] (OutcomeRec.bytes z)))

/-- R159: HOLD PERMIT. -/
def Device.holdPermit (zone hold : Byte) (p : Device) : Answer :=
  match indexParam 4 zone with
  | none => p.refuse .badIndex
  | some z =>
    match flagParam hold with
    | none => p.refuse .badValue
    | some b => (p.setZone z { p.zones.get z with hold := b }).accept .ok

/-- SET_ZONE (R130, R131, R134, R143). -/
def execSetZone (zone hazard tripEnable escalationEnable : Byte) (timeout : Half)
    (debounce polarity : Byte) (s : State) : Host.Outcome State Fault Refusal :=
  s.run fun p => Device.taken
    (p.setZoneCommand zone hazard tripEnable escalationEnable timeout debounce polarity)

/-- READ_ZONE (R132). -/
def execReadZone (zone : Byte) (s : State) : Host.Outcome State Fault Refusal :=
  s.run fun p => Device.taken (p.readZone zone)

/-- TRIP_ZONE (R144). -/
def execTripZone (zone : Byte) (s : State) : Host.Outcome State Fault Refusal :=
  s.run fun p => Device.taken (p.tripZone zone)

/-- RELEASE_TRIP (R149). -/
def execReleaseTrip (zone : Byte) (s : State) : Host.Outcome State Fault Refusal :=
  s.run fun p => Device.taken (p.releaseTrip zone)

/-- SENSE_OUTCOME (R154). -/
def execSenseOutcome (s : State) : Host.Outcome State Fault Refusal :=
  s.run fun p => Device.taken p.senseOutcome

/-- HOLD_PERMIT (R159). -/
def execHoldPermit (zone hold : Byte) (s : State) : Host.Outcome State Fault Refusal :=
  s.run fun p => Device.taken (p.holdPermit zone hold)

end Sys2Proof.Machine
end

