-- ==== Sys2Proof/Machine/Dispatch.lean ====
section
/-! DEFINITION. The meaning of every command: one arm for each row of spec/opcode_table.json. -/

namespace Sys2Proof.Machine

def exec (i : Instr) (s : State) : Host.Outcome State Fault Refusal :=
  match i with
  | .powerOnReset pins => Sys2Proof.Machine.execPowerOnReset pins s
  | .rstNReset pins => Sys2Proof.Machine.execRstNReset pins s
  | .characterReceived moment stopHigh data => Sys2Proof.Machine.execCharacterReceived moment stopHigh data s
  | .gapTimerExpiry => Sys2Proof.Machine.execGapTimerExpiry s
  | .syncPulse moment => Sys2Proof.Machine.execSyncPulse moment s
  | .syncTimerExpiry => Sys2Proof.Machine.execSyncTimerExpiry s
  | .holdoverTick => Sys2Proof.Machine.execHoldoverTick s
  | .freeTick => Sys2Proof.Machine.execFreeTick s
  | .slotDeadline epoch => Sys2Proof.Machine.execSlotDeadline epoch s
  | .brkLevelChange moment zone high => Sys2Proof.Machine.execBrkLevelChange moment zone high s
  | .debounceExpiry zone => Sys2Proof.Machine.execDebounceExpiry zone s
  | .tripTimeout zone => Sys2Proof.Machine.execTripTimeout zone s
  | .transactionStart moment => Sys2Proof.Machine.execTransactionStart moment s
  | .accessByte b => Sys2Proof.Machine.execAccessByte b s
  | .codeByte b => Sys2Proof.Machine.execCodeByte b s
  | .parameterByte b => Sys2Proof.Machine.execParameterByte b s
  | .overrunByte b => Sys2Proof.Machine.execOverrunByte b s
  | .resultByteRead => Sys2Proof.Machine.execResultByteRead s
  | .statusByteRead => Sys2Proof.Machine.execStatusByteRead s
  | .transactionEnd => Sys2Proof.Machine.execTransactionEnd s
  | .setLinkRate rate => Sys2Proof.Machine.execSetLinkRate rate s
  | .setJoinFilter value mask => Sys2Proof.Machine.execSetJoinFilter value mask s
  | .setFeederId id => Sys2Proof.Machine.execSetFeederId id s
  | .readLinkCounters => Sys2Proof.Machine.execReadLinkCounters s
  | .setEpochClock source period grace holdoverLimit window missLimit => Sys2Proof.Machine.execSetEpochClock source period grace holdoverLimit window missLimit s
  | .readEpochClock => Sys2Proof.Machine.execReadEpochClock s
  | .setEpochNumber n => Sys2Proof.Machine.execSetEpochNumber n s
  | .restartEvaluation => Sys2Proof.Machine.execRestartEvaluation s
  | .loadProfile index liveLevel openRatio openStep openSuspect openTrip leakMin leakUnit leakDecay leakSuspect leakTrip reverseTol settleEpochs => Sys2Proof.Machine.execLoadProfile index liveLevel openRatio openStep openSuspect openTrip leakMin leakUnit leakDecay leakSuspect leakTrip reverseTol settleEpochs s
  | .readProfile index => Sys2Proof.Machine.execReadProfile index s
  | .bindNode node addr phs => Sys2Proof.Machine.execBindNode node addr phs s
  | .unbindNode node => Sys2Proof.Machine.execUnbindNode node s
  | .readNode node => Sys2Proof.Machine.execReadNode node s
  | .readStrangers => Sys2Proof.Machine.execReadStrangers s
  | .clearStranger slot => Sys2Proof.Machine.execClearStranger slot s
  | .createSection sec upstream zone phs profile => Sys2Proof.Machine.execCreateSection sec upstream zone phs profile s
  | .editSection sec node1 node2 node3 node4 tapA tapB tapC => Sys2Proof.Machine.execEditSection sec node1 node2 node3 node4 tapA tapB tapC s
  | .commitSection sec => Sys2Proof.Machine.execCommitSection sec s
  | .recallSection sec => Sys2Proof.Machine.execRecallSection sec s
  | .tuneSection sec profile tapA tapB tapC => Sys2Proof.Machine.execTuneSection sec profile tapA tapB tapC s
  | .acknowledgeSection sec => Sys2Proof.Machine.execAcknowledgeSection sec s
  | .retireSection sec => Sys2Proof.Machine.execRetireSection sec s
  | .readSection sec => Sys2Proof.Machine.execReadSection sec s
  | .scanSections start field comparison key => Sys2Proof.Machine.execScanSections start field comparison key s
  | .setZone zone hazard tripEnable escalationEnable timeout debounce polarity => Sys2Proof.Machine.execSetZone zone hazard tripEnable escalationEnable timeout debounce polarity s
  | .readZone zone => Sys2Proof.Machine.execReadZone zone s
  | .tripZone zone => Sys2Proof.Machine.execTripZone zone s
  | .releaseTrip zone => Sys2Proof.Machine.execReleaseTrip zone s
  | .senseOutcome => Sys2Proof.Machine.execSenseOutcome s
  | .holdPermit zone hold => Sys2Proof.Machine.execHoldPermit zone hold s
  | .clearAlerts mask => Sys2Proof.Machine.execClearAlerts mask s
  | .setAlertEnable mask => Sys2Proof.Machine.execSetAlertEnable mask s
  | .readDevice => Sys2Proof.Machine.execReadDevice s
  | .startBit moment => Sys2Proof.Machine.execStartBit moment s

end Sys2Proof.Machine
end

