-- ==== Sys2Proof/Machine/Idle.lean ====
section
/-! DEFINITION. What the part does of its own when no command waits (log entries 2, 3, 18 and 22): the rows of
its own timers that are due, the command in hand in EXECUTING, the work in hand on the closes delivered, and
otherwise one cycle of REFCLK. -/

namespace Sys2Proof.Machine

/-- R57: the gap timer is due. -/
def Device.gapDue (p : Device) : List Instr :=
  match p.link.gapFrom with
  | some f => if f + ms Config.gapLimitMs ≤ p.now then [.gapTimerExpiry] else []
  | none => []

/-- R72 to R75: the timer of the Epoch Clock is due. -/
def Device.clockDue (p : Device) : List Instr :=
  match p.clock.lock, p.clock.ref with
  | .locked, some r => if r + p.clock.lateLimit ≤ p.now then [.syncTimerExpiry] else []
  | .holdover, some r => if r + ms p.clock.runPeriod ≤ p.now then [.holdoverTick] else []
  | .free, some r => if r + ms p.clock.runPeriod ≤ p.now then [.freeTick] else []
  | _, _ => []

/-- R81: the open slots whose deadline has come. -/
def Device.slotsDue (p : Device) : List Instr :=
  (p.slots.filter fun s => decide (s.deadline ≤ p.now)).map fun s => .slotDeadline s.epoch

/-- R133, R146: the debounce interval and the trip timer of a zone. -/
def Device.zoneDue (p : Device) (z : ZoneIx) : List Instr :=
  (match (p.zones.get z).interval with
    | some d => if d.ends ≤ p.now then [.debounceExpiry z.val] else []
    | none => [])
  ++ (match (p.zones.get z).seq, (p.zones.get z).timer with
    | .tripping, some t => if t ≤ p.now then [.tripTimeout z.val] else []
    | _, _ => [])

/-- R173: the complete command that waits for its owning block. -/
def Device.commandDue (p : Device) : List Instr :=
  match p.port.state with
  | .executing => (decodeCommand p.port.cmd).toList
  | .idle => []
  | .collecting => []
  | .result => []

/-- The rows that the part itself raises now. -/
def Device.due (p : Device) : List Instr :=
  p.gapDue ++ p.clockDue ++ p.slotsDue ++ (List.finRange 4).flatMap p.zoneDue ++ p.commandDue

/-- One cycle of REFCLK passes. -/
def Device.cycle (p : Device) : Device := { p with now := p.now + 1 }

/-- A choice among what the part can do at one moment has been made (log entry 3). -/
def Device.chosen (p : Device) : Device := { p with choices := p.choices + 1 }

/-- A row of the part's own is raised. -/
def State.raise (s : State) (row : Instr) : State := { s with pending := [row] }

/-- Of several rows due at one moment, and the next piece of the work in hand beside them, the one that comes
first: the free value of log entry 3. -/
def State.choose (s : State) (rows : List Instr) (inHand : Bool) : State :=
  match rows[Config.arbiter s.device.choices % (rows.length + inHand.toNat)]? with
  | some row => State.raise { s with device := s.device.chosen } row
  | none => { s with device := s.device.chosen.workPiece }

/-- A step on an empty queue: one row that is due is raised, or one piece of the work in hand is done, or, when
there is neither, one cycle of REFCLK passes. -/
def State.idle (s : State) : State :=
  match s.device.due, s.device.held.inHand with
  | [], false => { s with device := s.device.cycle }
  | [], true => { s with device := s.device.workPiece }
  | [row], false => s.raise row
  | rows, inHand => s.choose rows inHand

end Sys2Proof.Machine
end

