-- ==== Sys2Proof/Safety.lean ====
section
/-! DEFINITION. The laws that the spec says the part holds, as predicates on its state, and the vocabulary in
which statements speak of results and of unchanged parts. -/

namespace Sys2Proof.Machine

/-! ## Profiles (R115, R118) -/

/-- R115, R118: every field in its range, each suspect level at most its trip level. -/
def Profile.lawful (f : Profile) : Prop :=
  (1 ≤ f.liveLevel ∧ f.liveLevel ≤ 2047) ∧ f.openRatio ≤ 2047 ∧ (1 ≤ f.openStep ∧ f.openStep ≤ 64)
    ∧ (1 ≤ f.openSuspect ∧ f.openSuspect ≤ f.openTrip ∧ f.openTrip ≤ 255)
    ∧ (1 ≤ f.leakMin ∧ f.leakMin ≤ 32767) ∧ (1 ≤ f.leakUnit ∧ f.leakUnit ≤ 32767) ∧ f.leakDecay ≤ 255
    ∧ (1 ≤ f.leakSuspect ∧ f.leakSuspect ≤ f.leakTrip ∧ f.leakTrip ≤ 255) ∧ f.reverseTol ≤ 32767
    ∧ f.settleEpochs ≤ 255

/-- R115: every profile is lawful. -/
def Device.profilesLawful (p : Device) : Prop := ∀ i, (p.profiles.get i).lawful

/-! ## Epoch Clock (R68 to R76, R166) -/

/-- R69: the settings in range. -/
def ClockSettings.lawful (c : ClockSettings) : Prop :=
  (10 ≤ c.period ∧ c.period ≤ 200) ∧ (1 ≤ c.grace ∧ c.grace ≤ 50 ∧ c.grace ≤ c.period / 2)
    ∧ (1 ≤ c.holdoverLimit ∧ c.holdoverLimit ≤ 65535) ∧ (5 ≤ c.window ∧ c.window ≤ 600)
    ∧ (1 ≤ c.missLimit ∧ c.missLimit ≤ 255)

/-- R68 to R74: a timer runs except in ACQUIRING, the source fixes which lock states are met, the holdover
count is above 0 in HOLDOVER alone, and sync-lost stands in HOLDOVER alone. -/
def EpochClock.lawful (c : EpochClock) : Prop :=
  c.settings.lawful ∧ (c.runPeriod ≤ 200 ∧ 1 ≤ c.runGrace ∧ c.runGrace ≤ c.runPeriod / 2)
    ∧ (c.ref = none ↔ c.lock = .acquiring) ∧ (c.settings.source = .internal ↔ c.lock = .free)
    ∧ (0 < c.holdover ↔ c.lock = .holdover) ∧ (c.syncLost = true → c.lock = .holdover)
    ∧ c.holdover ≤ 65535 ∧ c.glitches ≤ 65535

/-! ## Link Receiver (R52 to R67) -/

/-- R63: every counter in 0..65535. -/
def LinkCounters.lawful (c : LinkCounters) : Prop :=
  c.crcErr ≤ 65535 ∧ c.formatErr ≤ 65535 ∧ c.gapAbort ≤ 65535 ∧ c.unsupported ≤ 65535 ∧ c.foreign ≤ 65535
    ∧ c.unknown ≤ 65535 ∧ c.late ≤ 65535 ∧ c.early ≤ 65535 ∧ c.duplicate ≤ 65535

/-- R54, R55: what the receiver holds of a frame in each of its states. -/
def LinkReceiver.frameLawful (l : LinkReceiver) : Prop :=
  match l.rx with
  | .hunt => l.body = []
  | .sync1 => l.body = []
  | .length => l.body = []
  | .body => l.body.length < l.lenByte.toNat ∧ l.lenByte.toNat ≤ 32
  | .crcHigh => l.body.length = l.lenByte.toNat ∧ 1 ≤ l.lenByte.toNat ∧ l.lenByte.toNat ≤ 32
  | .crcLow => l.body.length = l.lenByte.toNat ∧ 1 ≤ l.lenByte.toNat ∧ l.lenByte.toNat ≤ 32

/-- R52, R54 to R57, R60, R63, R65: counters in range; the frame in progress; the gap timer runs exactly
between characters outside HUNT; no character is in progress on a line that has not returned high; the feeder
ID is 0..63, and 63 exactly in amnesia. -/
def LinkReceiver.lawful (l : LinkReceiver) : Prop :=
  l.counters.lawful ∧ l.frameLawful ∧ (l.gapFrom.isSome ↔ l.rx ≠ .hunt ∧ l.inChar = false)
    ∧ (l.lowAt.isSome → l.inChar = false)
    ∧ l.feederId ≤ 63 ∧ (l.amnesia = true ↔ l.feederId = 63)

/-! ## Host Port (R168 to R179) -/

/-- R170: what the two buffers hold in each state. -/
def HostPort.buffersLawful (h : HostPort) : Prop :=
  match h.state with
  | .idle => h.cmd = [] ∧ h.result = [] ∧ h.readPos = 0
  | .collecting =>
    (∃ code ps n, h.cmd = code :: ps ∧ paramCount code = some n ∧ ps.length < n) ∧ h.result = []
      ∧ h.readPos = 0 ∧ h.xfer = .write
  | .executing => (decodeCommand h.cmd).isSome ∧ h.result = [] ∧ h.readPos = 0
  | .result => h.cmd = [] ∧ h.readPos < h.result.length ∧ h.result.length ≤ 31

/-- R168 to R170, R173, R177: the buffers, and a byte on MISO exactly inside a transaction, which needs CS_N
low; a byte whose standing against a taking is open is one of a WRITE transaction, in EXECUTING. -/
def HostPort.lawful (h : HostPort) : Prop :=
  h.buffersLawful ∧ (h.miso.isSome ↔ h.xfer ≠ .none) ∧ (h.xfer ≠ .none → h.csLow = true)
    ∧ (h.begun.isSome → h.state = .executing ∧ h.xfer = .write)

/-! ## Nodes, sections and topology (R9, R10, R33, R39, R91) -/

/-- A record in one of the eight live states (R1). -/
def SectionRec.live (r : SectionRec) : Prop := r.state ≠ .vacant

/-- R39: the number of non-VACANT sections that name a node. -/
def Device.timesNamed (p : Device) (n : NodeIx) : Nat :=
  (List.finRange 128).countP fun i =>
    (p.sections.get i).state != .vacant && decide (n ∈ (p.sections.get i).nodes)

/-- R33: an unbound record holds the unbound values; a bound one names some phase; the miss count is
0..255; no two bound records hold one address. -/
def Device.nodesLawful (p : Device) : Prop :=
  (∀ n, (p.nodes.get n).bound = false → p.nodes.get n = Node.unbound)
    ∧ (∀ n, (p.nodes.get n).bound = true → (p.nodes.get n).phases ≠ PhaseSet.none)
    ∧ (∀ n, (p.nodes.get n).miss ≤ 255)
    ∧ ∀ m n, (p.nodes.get m).bound = true → (p.nodes.get n).bound = true →
        (p.nodes.get m).addr = (p.nodes.get n).addr → m = n

/-- R9, R10, R39, R91: every node a live record names is bound on every phase of the record; upstream
nodes are not shared; downstream lists hold at most four nodes, none twice, none the record's own upstream
node, and share none; each reference count counts the live records that name the node. -/
def Device.topologyLawful (p : Device) : Prop :=
  (∀ i, (p.sections.get i).live → ∀ n ∈ (p.sections.get i).nodes,
      (p.nodes.get n).bound = true
        ∧ PhaseSet.contains (p.nodes.get n).phases (p.sections.get i).phases = true)
    ∧ (∀ i j, (p.sections.get i).live → (p.sections.get j).live →
        (p.sections.get i).upstream = (p.sections.get j).upstream → i = j)
    ∧ (∀ i, (p.sections.get i).live →
        (p.sections.get i).downstream.length ≤ 4 ∧ (p.sections.get i).nodes.Nodup)
    ∧ (∀ i j, (p.sections.get i).live → (p.sections.get j).live → ∀ n,
        n ∈ (p.sections.get i).downstream → n ∈ (p.sections.get j).downstream → i = j)
    ∧ ∀ n, (p.nodes.get n).refs = p.timesNamed n

/-- R48, R49, R51: sighting counts are 1..255, the overwrite count 0..15; no two slots hold one address,
and none holds a bound one. -/
def Device.strangersLawful (p : Device) : Prop :=
  p.overwrites ≤ 15
    ∧ (∀ k g, p.strangers.get k = some g →
        (1 ≤ g.count ∧ g.count ≤ 255) ∧ g.phases ≠ PhaseSet.none
          ∧ ∀ n, (p.nodes.get n).bound = true → (p.nodes.get n).addr ≠ g.addr)
    ∧ ∀ k l g h, p.strangers.get k = some g → p.strangers.get l = some h → g.addr = h.addr → k = l

/-! ## Assembly slots (R77, R80, R62, R91) -/

/-- R62, R91: a stored report's node is bound with the report's phases, and its values are clamped. -/
def Device.reportLawful (p : Device) (rep : StoredReport) : Prop :=
  (p.nodes.get rep.node).bound = true ∧ (p.nodes.get rep.node).phases = rep.phases
    ∧ ∀ ph, rep.voltage.get ph ≤ 2047 ∧ rep.current.get ph ≤ 32767

/-- R83, R88: at most four closes are held; each names no node twice in its arrived set; a record is reached
only in the work on a close. -/
def HeldWork.lawful (w : HeldWork) : Prop :=
  w.closes.length ≤ 4 ∧ (∀ c ∈ w.closes, (c.reports.map StoredReport.node).Nodup)
    ∧ (w.closes = [] → w.reach = none)

/-- R77, R80: at most four slots are open; they hold the most recent epochs, oldest first;
each is COMPLETE exactly when its arrived set contains its expected set, and the oldest is GATHERING; no node
reports twice in a slot; expected nodes are bound; and the work in hand is lawful. -/
def Device.slotsLawful (p : Device) : Prop :=
  p.slots.length ≤ 4
    ∧ (∀ (k : Nat) (h : k < p.slots.length),
        p.slots[k].epoch = p.clock.epoch - BitVec.ofNat 16 (p.slots.length - 1 - k))
    ∧ (∀ s ∈ p.slots, s.complete = s.full)
    ∧ (∀ s ∈ p.slots.head?, s.complete = false)
    ∧ (∀ s ∈ p.slots, s.arrived.Nodup ∧ s.expected.Nodup)
    ∧ (∀ s ∈ p.slots, ∀ n ∈ s.expected, (p.nodes.get n).bound = true)
    ∧ (∀ s ∈ p.slots, ∀ rep ∈ s.reports, p.reportLawful rep) ∧ p.held.lawful

/-! ## Section records and trips (R3, R6, R102, R109, R137, R139, R140, R143) -/

/-- All six scores of a record are 0. -/
def SectionRec.scoresZero (r : SectionRec) : Prop :=
  ∀ ph, r.openScore.get ph = 0 ∧ r.leakScore.get ph = 0

/-- R3: the record is in CONFIRMED or ISOLATED. -/
def SectionRec.latched (r : SectionRec) : Prop := r.state = .confirmed ∨ r.state = .isolated

/-- R2, R3, R6, R102, R109, R143: the relations between a record's fields. -/
def SectionRec.lawful (r : SectionRec) : Prop :=
  (r.state = .vacant → r = SectionRec.vacant)
    ∧ (r.live → r.phases ≠ PhaseSet.none)
    ∧ (r.cause.isSome ↔ r.latched) ∧ (r.confirmEpoch.isSome ↔ r.latched)
    ∧ (r.mark ≠ .none ↔ r.state = .confirmed) ∧ (r.escalated = true → r.latched)
    ∧ (r.mark = .withheld → r.escalated = false)
    ∧ (0 < r.settle ↔ r.state = .settling) ∧ r.settle ≤ 255
    ∧ (∀ ph, r.phases.get ph = false →
        r.tap.get ph = 0 ∧ r.openScore.get ph = 0 ∧ r.leakScore.get ph = 0)
    ∧ (∀ ph, r.openScore.get ph ≤ 255 ∧ r.leakScore.get ph ≤ 255 ∧ r.tap.get ph ≤ 32767)
    ∧ (r.firstHit = none → r.scoresZero)
    ∧ (r.state = .draft ∨ r.state = .settling ∨ r.state = .blind ∨ r.state = .dormant →
        r.firstHit = none)

/-- R137, R139, R140: what a zone holds in each sequencer state; a busy sequencer's breaker is CLOSED. -/
def Zone.lawful (y : Zone) : Prop :=
  match y.seq with
  | .idle => y.causes = [] ∧ y.manual = false ∧ y.timer = none
  | .tripping => y.timer.isSome ∧ y.isOpen = false
  | .hanging => y.causes = [] ∧ y.timer = none ∧ y.isOpen = false

/-- R140, R143: each cause list holds, without duplicates, exactly the CONFIRMED records with mark PENDING
whose trip zone it is; a record with mark WITHHELD has its zone's trip enable off. -/
def Device.causesLawful (p : Device) : Prop :=
  (∀ z, (p.zones.get z).causes.Nodup)
    ∧ (∀ z i, i ∈ (p.zones.get z).causes ↔
        (p.sections.get i).state = .confirmed ∧ (p.sections.get i).mark = .pending
          ∧ (p.sections.get i).tripZone = z)
    ∧ ∀ i, (p.sections.get i).mark = .withheld →
        (p.zones.get (p.sections.get i).zone).tripEnable = false

/-- The laws of the section records, the zones and the cause lists together. -/
def Device.tripsLawful (p : Device) : Prop :=
  (∀ i, (p.sections.get i).lawful) ∧ (∀ z, (p.zones.get z).lawful) ∧ p.causesLawful

/-! ## Amnesia (R66) -/

/-- R66: in amnesia no section is watched: every record is VACANT or DRAFT, and no slot is open. -/
def Device.amnesiaLawful (p : Device) : Prop :=
  p.link.amnesia = true →
    (∀ i, (p.sections.get i).state = .vacant ∨ (p.sections.get i).state = .draft) ∧ p.slots = []

/-! ## Vocabulary of the statements -/

/-- The state in which a host command has been answered: the part `d`, its whole result waiting in the
result buffer (R173). When the byte on MISO began at this very moment, as the command's last byte completed, it
shows the state before the taking or after it (R178): the free value of log entry 12. -/
def State.answered (s : State) (d : Device) (result : List Byte) : State :=
  let q : Device := { d with port := { d.port with state := .result, cmd := [], result := result, readPos := 0,
                                                   begun := none } }
  { s with device :=
      if d.port.begun = some d.now then
        { q with
          choices := q.choices + 1
          port := { q.port with
            miso := if Config.promptTaking q.choices then some q.statusByte else q.port.miso } }
      else q }

/-- The state with another part. -/
def State.withDevice (s : State) (d : Device) : State := { s with device := d }

/-- The rows that a command word carries (section 9.6). -/
def hostCommand (c : Instr) : Prop := (encodeCommand c).isSome

/-- The two resets. -/
def resetRow : Instr → Prop
  | .powerOnReset _ => True
  | .rstNReset _ => True
  | _ => False

/-- Section 9.6: the length of an accepted result that is not NONE. -/
def resultLength : Instr → Nat
  | .readLinkCounters => 26
  | .readEpochClock => 18
  | .readProfile _ => 18
  | .readNode _ => 12
  | .readStrangers => 26
  | .readSection _ => 31
  | .scanSections _ _ _ _ => 6
  | .readZone _ => 15
  | .senseOutcome => 10
  | .readDevice => 23
  | _ => 1

/-- R27: how a comparison code compares a value with the key. -/
def scanCompares (comparison : Byte) (value key : Nat) : Prop :=
  match comparison.toNat with
  | 0 => value = key
  | 1 => value ≤ key
  | 2 => key ≤ value
  | _ => False

/-- R27: a record meets the test of a field code, a comparison code and a key. -/
def SectionRec.scanTest (field comparison key : Byte) (r : SectionRec) : Prop :=
  match field.toNat with
  | 0 => scanCompares comparison r.state.code key.toNat
  | 1 => scanCompares comparison r.zone.val key.toNat
  | 2 => scanCompares comparison r.upstream.val key.toNat
  | 3 => ∃ n ∈ r.nodes, n.val = key.toNat
  | 4 => scanCompares comparison (max r.openScore.a (max r.openScore.b r.openScore.c)) key.toNat
  | 5 => scanCompares comparison (max r.leakScore.a (max r.leakScore.b r.leakScore.c)) key.toNat
  | _ => False

/-- R16: node `n` of a new downstream list, the nodes before it given, passes checks 1 to 4. -/
def Device.editFits (p : Device) (i : SecIx) (earlier : List NodeIx) (n : NodeIx) : Prop :=
  (p.nodes.get n).bound = true ∧ n ≠ (p.sections.get i).upstream ∧ n ∉ earlier
    ∧ PhaseSet.contains (p.nodes.get n).phases (p.sections.get i).phases = true

/-- R10, R16: node `n` is in the downstream list of another live section. -/
def Device.downstreamElsewhere (p : Device) (i : SecIx) (n : NodeIx) : Prop :=
  ∃ j, j ≠ i ∧ (p.sections.get j).live ∧ n ∈ (p.sections.get j).downstream

/-- The rows that reach the assembly slots as commands, and are taken when the work in hand has ended (R83). -/
def reachesSlots : Instr → Prop
  | .setEpochNumber _ => True
  | .restartEvaluation => True
  | .unbindNode _ => True
  | _ => False

/-- R8: some node the record names is STALE or FAULTY. -/
def Device.namesBad (p : Device) (r : SectionRec) : Prop :=
  ∃ n ∈ r.nodes, (p.nodes.get n).health = .stale ∨ (p.nodes.get n).health = .faulty

/-- R8: the placement test sends record `i`, standing as `r`, where `q` has it. -/
def Device.Placed (p : Device) (i : SecIx) (r : SectionRec) (q : Device) : Prop :=
  (p.energized r.zone = false → q = p.setSection i r.enterDormant)
    ∧ (p.energized r.zone = true → p.namesBad r →
        q = (p.setSection i r.enterBlind).setSectionFlag)
    ∧ (p.energized r.zone = true → ¬ p.namesBad r →
        q = p.setSection i (r.enterSettling (p.profiles.get r.profile)))

end Sys2Proof.Machine
end

