-- ==== Sys2Proof/Certificates/Slice0/Obligations.lean ====
section
/-! DEFINITION. The statements for the provers, family by family. Each equation names the whole next state, so
it is the command's completion, its effect and its frame at once. -/

open Sys2Proof Sys2Proof.Machine

/-! ## The step and the queue -/

/-- The step takes the command at the front of the queue and leaves the rest waiting. The queue is the model's
(spec/opcode_table.json lists the commands; log entry 17). -/
def Obligations.StepTakesFrontCommand : Prop :=
  ∀ (s : State) (c : Instr) (q : List Instr), s.pending = c :: q →
    step s = exec c { s with pending := q }

/-- On an empty queue: one row that is due is raised; or one piece of the work in hand is done; or, when there
is neither, one cycle of REFCLK passes. The rows that are due: the gap timer's expiry (R57), the Epoch Clock's
own timers (R72, R73, R75), the deadlines of the open slots (R81), the ends of debounce intervals (R133), the
expiries of trip timers (R146), and the command in hand in EXECUTING (R173). How the part's own work comes to
steps is the model's choice: log entries 2, 3, 18 and 22. -/
def Obligations.IdleStepRaisesDueRowOrPassesOneCycle : Prop :=
  ∀ s : State, s.pending = [] → ∃ t, step s = .next t ∧
    let p := s.device
    let c := p.clock
    let inHand := p.held.closes ≠ []
    let chosen : Device := { p with choices := p.choices + 1 }
    (p.due = [] → ¬ inHand → t = { s with device := { p with now := p.now + 1 } })
      ∧ (p.due = [] → inHand → t = { s with device := p.workPiece })
      ∧ (∀ row, p.due = [row] → ¬ inHand → t = { s with pending := [row] })
      ∧ (2 ≤ p.due.length → ¬ inHand → ∃ row ∈ p.due, t = { device := chosen, pending := [row] })
      ∧ (p.due ≠ [] → inHand → t = { s with device := chosen.workPiece }
          ∨ ∃ row ∈ p.due, t = { device := chosen, pending := [row] })
      ∧ ∀ row, row ∈ p.due ↔
          (row = .gapTimerExpiry ∧ ∃ f, p.link.gapFrom = some f ∧ f + 8192 ≤ p.now)
            ∨ (row = .syncTimerExpiry ∧ c.lock = .locked
                ∧ ∃ r, c.ref = some r ∧ r + (c.runPeriod + c.runGrace) * 4096 ≤ p.now)
            ∨ (row = .holdoverTick ∧ c.lock = .holdover ∧ ∃ r, c.ref = some r ∧ r + c.runPeriod * 4096 ≤ p.now)
            ∨ (row = .freeTick ∧ c.lock = .free ∧ ∃ r, c.ref = some r ∧ r + c.runPeriod * 4096 ≤ p.now)
            ∨ (∃ x ∈ p.slots, row = .slotDeadline x.epoch ∧ x.deadline ≤ p.now)
            ∨ (∃ z d, row = .debounceExpiry z.val ∧ (p.zones.get z).interval = some d ∧ d.ends ≤ p.now)
            ∨ (∃ z x, row = .tripTimeout z.val ∧ (p.zones.get z).seq = .tripping
                ∧ (p.zones.get z).timer = some x ∧ x ≤ p.now)
            ∨ (p.port.state = .executing ∧ decodeCommand p.port.cmd = some row)

/-- R173: EXECUTING ends. With no row waiting, no work in hand and nothing else due, two steps take the command
in hand, and the port stands in RESULT with a result to read from its first byte. How the model reaches it is
log entry 18. -/
def Obligations.ExecutingEndsInResult : Prop :=
  ∀ (s : State) (c : Instr), s.pending = [] → s.device.port.state = .executing →
    decodeCommand s.device.port.cmd = some c → s.device.due = [c] →
    s.device.held.closes = [] →
    ∃ t u, step s = .next t ∧ step t = .next u ∧ exec c s = .next u
      ∧ u.pending = [] ∧ u.device.now = s.device.now
      ∧ u.device.port.state = .result ∧ u.device.port.cmd = [] ∧ u.device.port.result ≠ []
      ∧ u.device.port.readPos = 0

/-- A row that cannot apply where the part stands changes nothing; one that carries a moment still lets time
pass to it (`Device.passTo`, which the statement on the work of a close describes). The model's choice: log
entries 4, 6, 8 and 13. A character without a start bit seen is none, and a start bit inside a character, or on
a line not seen to return high since a stop bit sampled low, is none: R52, R53. -/
def Obligations.RowsThatDoNotApplyChangeNothing : Prop :=
  ∀ (s : State) (m : Moment) (b : Byte) (e : Half),
    let p := s.device
    let h := p.port
    let waits := s.withDevice (p.passTo m)
    (p.link.gapFrom = none → exec .gapTimerExpiry s = .next s)
      ∧ (p.link.inChar = false → ∀ stop, exec (.characterReceived m stop b) s = .next waits)
      ∧ (p.link.inChar = true → exec (.startBit m) s = .next waits)
      ∧ (∀ t, p.link.lowAt = some t → max p.now m ≤ t → exec (.startBit m) s = .next waits)
      ∧ (p.clock.lock ≠ .locked → exec .syncTimerExpiry s = .next s)
      ∧ (p.clock.lock ≠ .holdover → exec .holdoverTick s = .next s)
      ∧ (p.clock.lock ≠ .free → exec .freeTick s = .next s)
      ∧ (∀ r, p.clock.lock = .locked → p.clock.ref = some r →
          (p.clock.runPeriod + p.clock.runGrace) * 4096 < max p.now m - r → p.clock.lawful →
          exec (.syncPulse m) s = .next waits)
      ∧ (∀ r, p.clock.lock = .holdover → p.clock.ref = some r →
          p.clock.runPeriod * 4096 < max p.now m - r → p.clock.lawful →
          exec (.syncPulse m) s = .next waits)
      ∧ ((∀ x ∈ p.finishWork.slots, x.epoch ≠ e) → exec (.slotDeadline e) s = .next s)
      ∧ (h.xfer ≠ .access → exec (.accessByte b) s = .next s)
      ∧ (h.xfer ≠ .write ∨ h.state ≠ .idle → exec (.codeByte b) s = .next s)
      ∧ (h.xfer ≠ .write ∨ h.state ≠ .collecting → exec (.parameterByte b) s = .next s)
      ∧ (h.xfer ≠ .write ∨ h.state = .idle ∨ h.state = .collecting → exec (.overrunByte b) s = .next s)
      ∧ (h.xfer ≠ .readResult ∨ h.state ≠ .result → exec .resultByteRead s = .next s)
      ∧ (h.xfer ≠ .status → exec .statusByteRead s = .next s)
      ∧ (h.csLow = false → exec .transactionEnd s = .next s)

/-! ## Resets -/

/-- R4, R34, R48, R52, R57, R61, R63, R68, R69, R77, R88, R129, R160, R162, R170, R177: what either reset
leaves. -/
def Obligations.ResetsLeaveTheStatedValues : Prop :=
  ∀ (pins : ResetPins) (s : State) (c : Instr), c = .powerOnReset pins ∨ c = .rstNReset pins →
    ∃ t, exec c s = .next t ∧ t.pending = s.pending
      ∧ (∀ i, t.device.sections.get i =
          { state := .vacant, upstream := 0, downstream := [], zone := 0, phases := ⟨false, false, false⟩,
            profile := 0, tap := ⟨0, 0, 0⟩, openScore := ⟨0, 0, 0⟩, leakScore := ⟨0, 0, 0⟩, settle := 0,
            mark := .none, escalated := false, inconsistent := false, cause := none, firstHit := none,
            confirmEpoch := none })
      ∧ (∀ n, t.device.nodes.get n =
          { bound := false, addr := 0#24, phases := ⟨false, false, false⟩, health := .unheard, miss := 0,
            refs := 0, lastHeard := none })
      ∧ (∀ k, t.device.strangers.get k = none) ∧ t.device.overwrites = 0
      ∧ t.device.slots = [] ∧ t.device.held = { closes := [], reach := none }
      ∧ t.device.link.rate = .baud115200 ∧ t.device.link.rx = .hunt ∧ t.device.link.inChar = false
      ∧ t.device.link.lowAt = none ∧ t.device.link.gapFrom = none
      ∧ t.device.link.counters = ⟨0, 0, 0, 0, 0, 0, 0, 0, 0⟩
      ∧ t.device.link.joinValue = 0#24 ∧ t.device.link.joinMask = 0#24
      ∧ t.device.clock.epoch = 0#16 ∧ t.device.clock.lock = .acquiring ∧ t.device.clock.ref = none
      ∧ t.device.clock.holdover = 0 ∧ t.device.clock.syncLost = false ∧ t.device.clock.glitches = 0
      ∧ t.device.clock.settings =
          { source := .external, period := 20, grace := 5, holdoverLimit := 3000, window := 50,
            missLimit := 5 }
      ∧ (∀ z, t.device.zones.get z =
          { hazard := .normal, tripEnable := true, escalationEnable := true, tripTimeout := 200,
            debounce := 4, polarity := .highOpen, pin := pins.brk.getLsbD z.val,
            stable := pins.brk.getLsbD z.val, interval := none, seq := .idle, causes := [],
            manual := false, timer := none, latch := none, hold := true })
      ∧ t.device.alerts =
          { flags := ⟨false, false, false, false, false⟩,
            enables := ⟨true, true, true, true, true, true⟩ }
      ∧ t.device.port.state = .idle ∧ t.device.port.cmd = [] ∧ t.device.port.result = []
      ∧ t.device.port.overrun = false ∧ t.device.port.abandoned = false
      ∧ t.device.port.csLow = pins.csLow ∧ t.device.port.xfer = .none ∧ t.device.port.miso = none
      ∧ t.device.port.begun = none

/-- R65: the seven pins decide the identity at the end of either reset, and nothing else but SET FEEDER ID
changes it. -/
def Obligations.StrapsGiveFeederIdentity : Prop :=
  (∀ (pins : ResetPins) (s t : State) (c : Instr), c = .powerOnReset pins ∨ c = .rstNReset pins →
      exec c s = .next t →
      let high := [pins.fid.getLsbD 0, pins.fid.getLsbD 1, pins.fid.getLsbD 2, pins.fid.getLsbD 3,
        pins.fid.getLsbD 4, pins.fid.getLsbD 5, pins.fidPar].count true
      (high % 2 = 1 ∧ pins.fid.toNat ≤ 62 →
          t.device.link.feederId = pins.fid.toNat ∧ t.device.link.amnesia = false)
        ∧ (¬ (high % 2 = 1 ∧ pins.fid.toNat ≤ 62) →
          t.device.link.feederId = 63 ∧ t.device.link.amnesia = true))
    ∧ ∀ (s t : State) (c : Instr), ¬ resetRow c → (∀ b, c ≠ .setFeederId b) → exec c s = .next t →
        t.device.link.feederId = s.device.link.feederId ∧ t.device.link.amnesia = s.device.link.amnesia

/-- R115 to R117: the Profile Table through the resets, a restart and a renumbering; no row but LOAD
PROFILE and POWER_ON_RESET writes it. -/
def Obligations.ProfileTableKeepsWhatWasLoaded : Prop :=
  (∀ (pins : ResetPins) (s : State),
      (∃ t, exec (.powerOnReset pins) s = .next t ∧ ∀ i, t.device.profiles.get i =
          { liveLevel := 600, openRatio := 410, openStep := 4, openSuspect := 4, openTrip := 12,
            leakMin := 15, leakUnit := 5, leakDecay := 1, leakSuspect := 40, leakTrip := 120,
            reverseTol := 50, settleEpochs := 25 })
      ∧ (∃ t, exec (.rstNReset pins) s = .next t ∧ t.device.profiles = s.device.profiles
          ∧ t.device.port.state = .idle ∧ t.device.port.cmd = []
          ∧ ∀ i, (t.device.sections.get i).state = .vacant)
      ∧ (∀ n t, exec (.setEpochNumber n) s = .next t → t.device.profiles = s.device.profiles)
      ∧ ∀ t, exec .restartEvaluation s = .next t → t.device.profiles = s.device.profiles)
  ∧ (∀ (s t : State) (c : Instr), exec c s = .next t →
      (∀ pins, c ≠ .powerOnReset pins) →
      (∀ i ll orr st os ot lm lu ld ls lt rt se, c ≠ .loadProfile i ll orr st os ot lm lu ld ls lt rt se) →
      t.device.profiles = s.device.profiles)

/-! ## The Sensor Link -/

/-- R54, R55: a byte delivered to the frame receiver, in every state but CRC_LOW, with the character in
progress that its start bit began. `p` is the part once time has passed to the row's moment (log entry 4). -/
def Obligations.ByteMovesFrameReceiver : Prop :=
  ∀ (s : State) (m : Moment) (b : Byte), s.device.link.inChar = true →
    let p := s.device.passTo m
    let l := { p.link with inChar := false, lowAt := none }
    let byte := exec (.characterReceived m true b) s
    let on := fun rx =>
      byte = .next (s.withDevice { p with link := { l with rx := rx, gapFrom := some p.now } })
    let home := byte = .next (s.withDevice { p with link := l.toHunt })
    (p.link.rx = .hunt → b = 0xC9#8 → on .sync1)
      ∧ (p.link.rx = .hunt → b ≠ 0xC9#8 → byte = .next (s.withDevice { p with link := l }))
      ∧ (p.link.rx = .sync1 → b = 0x36#8 → on .length)
      ∧ (p.link.rx = .sync1 → b = 0xC9#8 → on .sync1)
      ∧ (p.link.rx = .sync1 → b ≠ 0x36#8 → b ≠ 0xC9#8 → home)
      ∧ (p.link.rx = .length → 1 ≤ b.toNat → b.toNat ≤ 32 → byte =
          .next (s.withDevice { p with link := { l with rx := .body, gapFrom := some p.now,
                                                        lenByte := b, body := [] } }))
      ∧ (p.link.rx = .length → b.toNat = 0 ∨ 32 < b.toNat → byte =
          .next (s.withDevice { p with
            link := { l.toHunt with counters := { l.counters with
                        formatErr := min 65535 (l.counters.formatErr + 1) } }
            alerts := { p.alerts with flags := { p.alerts.flags with link := true } } }))
      ∧ (p.link.rx = .body → l.body.length + 1 < l.lenByte.toNat →
          byte = .next (s.withDevice { p with link := { l with gapFrom := some p.now, body := l.body ++ [b] } }))
      ∧ (p.link.rx = .body → l.body.length + 1 = l.lenByte.toNat →
          byte = .next (s.withDevice { p with link := { l with rx := .crcHigh, gapFrom := some p.now,
                                                               body := l.body ++ [b] } }))
      ∧ (p.link.rx = .crcHigh → byte =
          .next (s.withDevice { p with link := { l with rx := .crcLow, gapFrom := some p.now,
                                                        crcHigh := b } }))

/-- R52, R57: a stop bit sampled low, after which no start bit is seen before the line has returned high; the
expiry of the gap timer; and a start bit with no gap timer running, within the limit and beyond it. 8192 cycles
of REFCLK are the 2 ms of the rule (log entry 1); that a falling edge of a later moment shows the line to have
returned high is log entry 8. -/
def Obligations.FramingErrorsAndGapsAbandonFrames : Prop :=
  (∀ (s : State) (m : Moment) (b : Byte), s.device.link.inChar = true →
      let p := s.device.passTo m
      let l := { p.link with inChar := false, lowAt := some p.now }
      (p.link.rx = .hunt ∨ p.link.rx = .sync1 → exec (.characterReceived m false b) s =
          .next (s.withDevice { p with link := l.toHunt }))
        ∧ (p.link.rx ≠ .hunt → p.link.rx ≠ .sync1 → exec (.characterReceived m false b) s =
            .next (s.withDevice { p with
              link := { l.toHunt with counters := { l.counters with
                          formatErr := min 65535 (l.counters.formatErr + 1) } }
              alerts := { p.alerts with flags := { p.alerts.flags with link := true } } })))
  ∧ (∀ (s : State) (m : Moment),
      let aborted : Device → Device := fun p =>
        if p.link.rx.inFrame then { p with
          link := { p.link.toHunt with counters := { p.link.counters with
                      gapAbort := min 65535 (p.link.counters.gapAbort + 1) } }
          alerts := { p.alerts with flags := { p.alerts.flags with link := true } } }
        else { p with link := p.link.toHunt }
      let started : Device → Device := fun p =>
        { p with link := { p.link with inChar := true, lowAt := none, gapFrom := none } }
      let p := s.device.passTo m
      let seen := p.link.inChar = false ∧ ∀ t, p.link.lowAt = some t → t < p.now
      (∀ f, s.device.link.gapFrom = some f →
          exec .gapTimerExpiry s = .next (s.withDevice (aborted (s.device.passTo (f + 8192)))))
        ∧ (seen → p.link.gapFrom = none → exec (.startBit m) s = .next (s.withDevice (started p)))
        ∧ (∀ f, seen → p.link.gapFrom = some f → p.now ≤ f + 8192 →
            exec (.startBit m) s = .next (s.withDevice (started p)))
        ∧ (∀ f, seen → p.link.gapFrom = some f → f + 8192 < p.now →
            exec (.startBit m) s = .next (s.withDevice (started (aborted p)))))
  ∧ ∀ rx : RxState, rx.inFrame = true ↔ rx = .length ∨ rx = .body ∨ rx = .crcHigh ∨ rx = .crcLow

/-- R56: the register starts at FFFFh; each byte is XORed into its high half and shifted out in eight places
under the generator 1021h; over the nine ASCII bytes 31h to 39h it gives 29B1h; and run on through the two
received CRC bytes it ends at 0000h exactly when the frame is good. -/
def Obligations.CrcRunsOutToZeroExactlyOnGoodFrames : Prop :=
  crcOf [] = 0xFFFF#16
    ∧ (∀ (bytes : List Byte) (b : Byte), crcOf (bytes ++ [b]) =
        Nat.iterate (fun r : Half => if r.getLsbD 15 then (r <<< 1) ^^^ 0x1021#16 else r <<< 1) 8
          (crcOf bytes ^^^ (b ++ 0#8)))
    ∧ crcOf [0x31#8, 0x32#8, 0x33#8, 0x34#8, 0x35#8, 0x36#8, 0x37#8, 0x38#8, 0x39#8] = 0x29B1#16
    ∧ ∀ (bytes : List Byte) (hi lo : Byte), crcOf (bytes ++ [hi, lo]) = 0#16 ↔ crcOf bytes = hi ++ lo

/-- R59: a complete frame's fate is decided by the first condition that holds. The receiver stands in CRC_LOW
with a character in progress, and `b` is the received CRC low byte. -/
def Obligations.FirstConditionDecidesFrame : Prop :=
  ∀ (s : State) (m : Moment) (b : Byte), s.device.link.rx = .crcLow → s.device.link.inChar = true →
    let p := s.device.passTo m
    let body := p.link.body
    let phs := bodyPhases body
    let q : Device := { p with link := LinkReceiver.toHunt { p.link with inChar := false, lowAt := none } }
    let counted : (LinkCounters → LinkCounters) → Device := fun f =>
      { q with link := { q.link with counters := f q.link.counters } }
    let alarmed : Device → Device := fun d =>
      { d with alerts := { d.alerts with flags := { d.alerts.flags with link := true } } }
    let good := crcOf (p.link.lenByte :: body) = p.link.crcHigh ++ b
    let report := body.getD 0 0#8 = 0x01#8
    let sized := 8 ≤ body.length ∧ 0 < PhaseSet.count phs ∧ body.length = 8 + 4 * PhaseSet.count phs
    let ours := (body.getD 1 0#8).toNat = p.link.feederId ∧ p.link.feederId ≠ 63
    let gives := fun d => exec (.characterReceived m true b) s = .next (s.withDevice d)
    (¬ good → gives (alarmed (counted fun c => { c with crcErr := min 65535 (c.crcErr + 1) })))
      ∧ (good → ¬ report → gives (counted fun c => { c with unsupported := min 65535 (c.unsupported + 1) }))
      ∧ (good → report → ¬ sized →
          gives (alarmed (counted fun c => { c with formatErr := min 65535 (c.formatErr + 1) })))
      ∧ (good → report → sized → ¬ ours →
          gives (counted fun c => { c with foreign := min 65535 (c.foreign + 1) }))
      ∧ (good → report → sized → ours →
          (∀ n, (p.nodes.get n).bound = true → (p.nodes.get n).addr ≠ bodyAddr body) →
          (bodyAddr body &&& p.link.joinMask = p.link.joinValue &&& p.link.joinMask →
              gives (q.sight (bodyAddr body) (bodyEpoch body) phs))
            ∧ (bodyAddr body &&& p.link.joinMask ≠ p.link.joinValue &&& p.link.joinMask →
              gives (counted fun c => { c with unknown := min 65535 (c.unknown + 1) })))
      ∧ ∀ n, p.nodesLawful → good → report → sized → ours → (p.nodes.get n).bound = true →
          (p.nodes.get n).addr = bodyAddr body →
          (phs ≠ (p.nodes.get n).phases →
              gives (alarmed (counted fun c => { c with formatErr := min 65535 (c.formatErr + 1) })))
            ∧ (phs = (p.nodes.get n).phases →
              gives (q.storeReport (bodyEpoch body) (admitted body n)))

/-- R58, R62, R183: what an admitted report hands on: the marks of the flags byte, and for each present phase
its voltage and current, at the offset that the present phases before it give, clamped; and the places of the
sensor address and of the epoch number in the body. -/
def Obligations.AdmittedReportIsClampedFrame : Prop :=
  ∀ (body : List Byte) (n : NodeIx),
    let r := admitted body n
    let flags := body.getD 7 0#8
    let word := fun k => (body.getD k 0#8 ++ body.getD (k + 1) 0#8 : Half).toNat
    let offset := fun (before : List Bool) => 8 + 4 * before.count true
    r.node = n ∧ r.fault = flags.getLsbD 3 ∧ r.motion = flags.getLsbD 4
      ∧ r.phases = ⟨flags.getLsbD 0, flags.getLsbD 1, flags.getLsbD 2⟩
      ∧ (flags.getLsbD 0 = true → r.voltage.a = min 2047 (word (offset []))
          ∧ r.current.a = min 32767 (word (offset [] + 2)))
      ∧ (flags.getLsbD 1 = true → r.voltage.b = min 2047 (word (offset [flags.getLsbD 0]))
          ∧ r.current.b = min 32767 (word (offset [flags.getLsbD 0] + 2)))
      ∧ (flags.getLsbD 2 = true →
          r.voltage.c = min 2047 (word (offset [flags.getLsbD 0, flags.getLsbD 1]))
            ∧ r.current.c = min 32767 (word (offset [flags.getLsbD 0, flags.getLsbD 1] + 2)))
      ∧ bodyAddr body = (body.getD 2 0#8 ++ body.getD 3 0#8 ++ body.getD 4 0#8 : Addr)
      ∧ bodyEpoch body = (body.getD 5 0#8 ++ body.getD 6 0#8 : Half)
      ∧ bodyPhases body = ⟨flags.getLsbD 0, flags.getLsbD 1, flags.getLsbD 2⟩

/-- R49: a sighting refreshes the slot that holds its address, else fills the lowest empty slot, else
replaces slot 2. -/
def Obligations.SightingIsPlacedByFirstCase : Prop :=
  ∀ (p : Device) (a : Addr) (e : Half) (phs : PhaseSet),
    let fresh : Sighting := { addr := a, lastEpoch := e, phases := phs, count := 1 }
    let flagged : Device → Device := fun d =>
      { d with alerts := { d.alerts with flags := { d.alerts.flags with stranger := true } } }
    (∀ k g, p.strangersLawful → p.strangers.get k = some g → g.addr = a →
        let again : Sighting := { g with lastEpoch := e, phases := phs, count := min 255 (g.count + 1) }
        p.sight a e phs = { p with strangers := p.strangers.set k (some again) })
      ∧ ((∀ k g, p.strangers.get k = some g → g.addr ≠ a) →
          (∀ k, p.strangers.get k = none → (∀ j, j < k → p.strangers.get j ≠ none) →
              p.sight a e phs = flagged { p with strangers := p.strangers.set k (some fresh) })
            ∧ ((∀ k, p.strangers.get k ≠ none) →
              p.sight a e phs = flagged { p with strangers := p.strangers.set 2 (some fresh),
                                                 overwrites := min 15 (p.overwrites + 1) }))

/-- R60, R66: while the feeder ID is 63 no character makes a stored report or a stranger: the tables stand as
the passing of time alone leaves them. -/
def Obligations.NoReportIsHeardUnderFeederId63 : Prop :=
  ∀ (s t : State) (m : Moment) (stop : Bool) (b : Byte), s.device.link.feederId = 63 →
    exec (.characterReceived m stop b) s = .next t →
    let p := s.device.passTo m
    t.device.slots = p.slots ∧ t.device.held = p.held ∧ t.device.strangers = s.device.strangers
      ∧ t.device.overwrites = s.device.overwrites ∧ t.device.nodes = p.nodes
      ∧ t.device.sections = p.sections ∧ t.device.zones = p.zones

/-- R50, R51, R53, R61, R64, R67: the rate codes, the commands of the Link Receiver and of the Stranger Slots, the bytes that
the two reads return, and the counters that the second zeroes. -/
def Obligations.LinkAndStrangerCommandsAnswer : Prop :=
  let rateCode : LinkRate → Byte := fun r => match r with
    | .baud19200 => 0x00#8
    | .baud38400 => 0x01#8
    | .baud57600 => 0x02#8
    | .baud115200 => 0x03#8
    | .baud230400 => 0x04#8
    | .baud460800 => 0x05#8
  (∀ s : State,
      let p := s.device
      let l := p.link
      (∀ (r : LinkRate), exec (.setLinkRate (rateCode r)) s =
          .next (s.answered { p with link := { l.toHunt with rate := r, inChar := false } } [0x00#8]))
        ∧ (∀ b : Byte, 5 < b.toNat → exec (.setLinkRate b) s = .next (s.answered p [0x87#8]))
        ∧ (∀ v k, exec (.setJoinFilter v k) s =
            .next (s.answered { p with link := { l with joinValue := v, joinMask := k } } [0x00#8]))
        ∧ (∀ b : Byte, b.toNat ≤ 62 → exec (.setFeederId b) s =
            .next (s.answered { p with link := { l with feederId := b.toNat, amnesia := false } } [0x00#8]))
        ∧ (∀ b : Byte, 63 ≤ b.toNat → exec (.setFeederId b) s = .next (s.answered p [0x87#8]))
        ∧ (∀ b : Byte, 3 ≤ b.toNat → exec (.clearStranger b) s = .next (s.answered p [0x81#8]))
        ∧ ∀ k : Fin 3, exec (.clearStranger (natByte k.val)) s =
            .next (s.answered { p with strangers := p.strangers.set k none,
                                       overwrites := if k = 2 then 0 else p.overwrites } [0x00#8]))
  ∧ (∀ s : State,
      let p := s.device
      let c := p.link.counters
      let zero : LinkCounters := ⟨0, 0, 0, 0, 0, 0, 0, 0, 0⟩
      let slot := fun (k : Fin 3) =>
        match p.strangers.get k with
        | some g => [0x01#8] ++ addrBytes g.addr ++ halfBytes g.lastEpoch
            ++ [phaseSetByte g.phases, natByte g.count]
        | none => [0x00#8, 0x00#8, 0x00#8, 0x00#8, 0x00#8, 0x00#8, 0x00#8, 0x00#8]
      exec .readStrangers s =
          .next (s.answered p ([0x00#8] ++ slot 0 ++ slot 1 ++ slot 2 ++ [natByte p.overwrites]))
        ∧ exec .readLinkCounters s =
          .next (s.answered { p with link := { p.link with counters := zero } }
            ([0x00#8] ++ natHalf c.crcErr ++ natHalf c.formatErr ++ natHalf c.gapAbort
              ++ natHalf c.unsupported ++ natHalf c.foreign ++ natHalf c.unknown ++ natHalf c.late
              ++ natHalf c.early ++ natHalf c.duplicate ++ [rateCode p.link.rate] ++ addrBytes p.link.joinValue
              ++ addrBytes p.link.joinMask)))

/-! ## The Epoch Clock and the assembly slots -/

/-- R71 to R73, R75: a SYNC pulse in each lock state. `p` is the part once time has passed to the pulse's moment
(log entry 4). The times of R72 and R73 are counted from the reference
instant in milliseconds of 4096 cycles (log entry 1). -/
def Obligations.SyncPulseByLockState : Prop :=
  ∀ (s : State) (m : Moment),
    let p := s.device.passTo m
    let c := p.clock
    let locked : Device := { p with clock := { c with
      lock := .locked, ref := some p.now, runPeriod := c.settings.period, runGrace := c.settings.grace,
      holdover := 0, syncLost := false } }
    let glitch : Device := { p with clock := { c with glitches := min 65535 (c.glitches + 1) } }
    let gives := fun d => exec (.syncPulse m) s = .next (s.withDevice d)
    (c.lock = .acquiring → gives locked.tick)
      ∧ (c.lock = .free → gives p)
      ∧ (∀ r, c.lock = .locked → c.ref = some r →
          (p.now - r < (c.runPeriod - c.runGrace) * 4096 → gives glitch)
            ∧ ((c.runPeriod - c.runGrace) * 4096 ≤ p.now - r →
                p.now - r ≤ (c.runPeriod + c.runGrace) * 4096 →
                gives (Device.tick { p with clock := { c with
                  ref := some p.now, runPeriod := c.settings.period, runGrace := c.settings.grace } })))
      ∧ ∀ r, c.lock = .holdover → c.ref = some r →
          (p.now - r ≤ c.runGrace * 4096 → gives locked)
            ∧ (c.runGrace * 4096 < p.now - r → p.now - r < (c.runPeriod - c.runGrace) * 4096 →
                gives glitch)
            ∧ (c.runGrace * 4096 < p.now - r → (c.runPeriod - c.runGrace) * 4096 ≤ p.now - r →
                p.now - r ≤ c.runPeriod * 4096 → gives locked.tick)

/-- R72 to R75: the Epoch Clock's own ticks: the LOCKED timer's expiry, and the internal ticks of HOLDOVER and
FREE. The SYNC flag is set at entry to HOLDOVER and when sync-lost becomes set. -/
def Obligations.InternalTicksByLockState : Prop :=
  ∀ (s : State) (r : Moment), s.device.clock.ref = some r →
    let c := s.device.clock
    let late := s.device.passTo (r + (c.runPeriod + c.runGrace) * 4096)
    let full := s.device.passTo (r + c.runPeriod * 4096)
    let begun : Device → EpochClock := fun p =>
      { c with ref := some p.now, runPeriod := c.settings.period, runGrace := c.settings.grace }
    let flagged : Device → Bool → AlertUnit := fun p b =>
      { p.alerts with flags := { p.alerts.flags with sync := p.alerts.flags.sync || b } }
    let raised := min 65535 (c.holdover + 1)
    (c.lock = .locked → exec .syncTimerExpiry s = .next (s.withDevice (Device.tick { late with
        clock := { begun late with lock := .holdover, holdover := 1,
                                   syncLost := c.syncLost || decide (c.settings.holdoverLimit ≤ 1) }
        alerts := flagged late true })))
      ∧ (c.lock = .holdover → exec .holdoverTick s = .next (s.withDevice (Device.tick { full with
          clock := { begun full with
            holdover := raised, syncLost := c.syncLost || decide (c.settings.holdoverLimit ≤ raised) }
          alerts := flagged full (decide (c.settings.holdoverLimit ≤ raised) && !c.syncLost) })))
      ∧ (c.lock = .free → exec .freeTick s = .next (s.withDevice (Device.tick { full with
          clock := begun full })))

/-- R72, R73: a pulse and the LOCKED timer's expiry at one moment, or a pulse and the HOLDOVER timer at one
moment, in either order: one tick, the clock LOCKED after it with its reference instant at that moment. -/
def Obligations.PulseAndTimerInEitherOrderMakeOneTick : Prop :=
  ∀ (s : State) (r : Moment), s.device.clock.lawful → s.device.clock.ref = some r →
    let c := s.device.clock
    let once := fun (t : State) (moment : Moment) =>
      t.device.clock.epoch = c.epoch + 1#16 ∧ t.device.clock.lock = .locked
        ∧ t.device.clock.ref = some moment
    (∀ moment, c.lock = .locked → moment = r + (c.runPeriod + c.runGrace) * 4096 → s.device.now ≤ moment →
        (∃ t, exec (.syncPulse moment) s = .next t ∧ once t moment)
          ∧ ∃ t u, exec .syncTimerExpiry s = .next t ∧ exec (.syncPulse moment) t = .next u
              ∧ once u moment ∧ u.device.alerts.flags.sync = true)
      ∧ ∀ moment, c.lock = .holdover → moment = r + c.runPeriod * 4096 → s.device.now ≤ moment →
        (∃ t, exec (.syncPulse moment) s = .next t ∧ once t moment)
          ∧ ∃ t u, exec .holdoverTick s = .next t ∧ exec (.syncPulse moment) t = .next u ∧ once u moment

/-- R75: the epoch number changes at ticks and at SET EPOCH NUMBER, and at the resets. -/
def Obligations.EpochNumberChangesOnlyAtTicks : Prop :=
  ∀ (s t : State) (c : Instr), exec c s = .next t → ¬ resetRow c → (∀ n, c ≠ .setEpochNumber n) →
    (t.device.clock.epoch = s.device.clock.epoch)
      ∨ ((∃ m, c = .syncPulse m) ∨ c = .syncTimerExpiry ∨ c = .holdoverTick ∨ c = .freeTick)
        ∧ t.device.clock.epoch = s.device.clock.epoch + 1#16

/-- R40, R75, R78, R81, R83: the expected set holds the bound nodes that a record in SETTLING, ARMED, SUSPECT or
BLIND names. A tick is taken when the work in hand has ended, and is taken whole: in one step it raises the epoch
number, closes the oldest of four open slots and the COMPLETE slots then oldest with it, delivers those closes, and
opens the slot of the new epoch behind the slots still open. Its expected set is that of the tables as they stand
at the tick, before those closes are worked: DEDUCED, log entry 11. With no node expected it is COMPLETE at once,
and closes at once when it is the oldest. Four closes may be held then: the first is worked before the fifth is
delivered, DEDUCED from the bound of R83, log entry 11. -/
def Obligations.TickOpensSlotForWatchedNodes : Prop :=
  (∀ p : Device, p.tick = p.finishWork.tick)
  ∧ (∀ p : Device, p.held.closes = [] → p.slotsLawful →
      let q : Device := { p with clock := { p.clock with epoch := p.clock.epoch + 1#16 } }
      let new : Bool → Slot := fun complete =>
        { epoch := p.clock.epoch + 1#16, deadline := p.now + p.clock.settings.window * 4096,
          expected := p.expectedSet, complete := complete, reports := [] }
      let empty : Close := ⟨p.clock.epoch + 1#16, [], []⟩
      let opens : List Slot → List Slot → Prop := fun closed kept =>
        let held : HeldWork := { closes := closed.map fun y => ⟨y.epoch, y.expected, y.reports⟩, reach := none }
        (p.expectedSet ≠ [] → p.tick = { q with slots := kept ++ [new false], held := held })
          ∧ (p.expectedSet = [] → kept ≠ [] → p.tick = { q with slots := kept ++ [new true], held := held })
      (p.slots.length < 4 → opens [] p.slots)
        ∧ (p.slots = [] → p.expectedSet = [] → p.tick = { q with held := { closes := [empty], reach := none } })
        ∧ ∀ oldest complete kept, p.slots.length = 4 → p.slots = oldest :: (complete ++ kept) →
            (∀ y ∈ complete, y.complete = true) → (∀ y ∈ kept.head?, y.complete = false) →
            opens (oldest :: complete) kept
              ∧ (p.expectedSet = [] → kept = [] →
                  p.tick = { Device.workClose { q with slots := [] }
                                ⟨oldest.epoch, oldest.expected, oldest.reports⟩ with
                    held :=
                      { closes := (complete.map fun y => ⟨y.epoch, y.expected, y.reports⟩) ++ [empty]
                        reach := none } }))
  ∧ (∀ (p : Device) (n : NodeIx), n ∈ p.expectedSet ↔
      (p.nodes.get n).bound = true ∧ ∃ i, n ∈ (p.sections.get i).nodes
        ∧ ((p.sections.get i).state = .settling ∨ (p.sections.get i).state = .armed
          ∨ (p.sections.get i).state = .suspect ∨ (p.sections.get i).state = .blind))

/-- R79, R80: an admitted report, by the first case that applies. It is taken when the work in hand has ended
(R83); the closes that it brings about are delivered in order, to be worked. -/
def Obligations.AdmittedReportIsStoredByFirstCase : Prop :=
  ∀ (p : Device) (e : Half) (rep : StoredReport), p.storeReport e rep = p.finishWork.storeReport e rep
    ∧ (p.held.closes = [] → p.slotsLawful →
    let d := (p.clock.epoch - e).toNat
    let counted : (LinkCounters → LinkCounters) → Device := fun f =>
      { p with link := { p.link with counters := f p.link.counters } }
    (32768 ≤ d → p.storeReport e rep = counted fun c => { c with early := min 65535 (c.early + 1) })
      ∧ (d < 32768 → (∀ s ∈ p.slots, s.epoch ≠ e) →
          p.storeReport e rep = counted fun c => { c with late := min 65535 (c.late + 1) })
      ∧ ∀ older s newer, p.slots = older ++ s :: newer → s.epoch = e → d < 32768 →
          (rep.node ∈ s.arrived →
              p.storeReport e rep = counted fun c => { c with duplicate := min 65535 (c.duplicate + 1) })
            ∧ (rep.node ∉ s.arrived →
              let stored : Slot := { s with reports := s.reports ++ [rep] }
              (¬ stored.expected ⊆ stored.arrived →
                  p.storeReport e rep = { p with slots := older ++ stored :: newer })
                ∧ (stored.expected ⊆ stored.arrived → older ≠ [] →
                  p.storeReport e rep =
                    { p with slots := older ++ { stored with complete := true } :: newer })
                ∧ (stored.expected ⊆ stored.arrived → older = [] → ∀ complete kept,
                  newer = complete ++ kept → (∀ y ∈ complete, y.complete = true) →
                  (∀ y ∈ kept.head?, y.complete = false) →
                  p.storeReport e rep = { p with
                    slots := kept
                    held := { p.held with closes :=
                      (stored :: complete).map fun y => ⟨y.epoch, y.expected, y.reports⟩ } })))

/-- R80 to R83: the deadline of an open slot closes every older slot, that slot, and the COMPLETE slots then
oldest, delivered in order, to be worked; the rest stay open. It is taken when the work in hand has ended. -/
def Obligations.DeadlineClosesThroughItsSlot : Prop :=
  ∀ (s : State) (older : List Slot) (x : Slot) (complete kept : List Slot),
    let p := s.device.finishWork
    p.slotsLawful → p.slots = older ++ x :: (complete ++ kept) → (∀ y ∈ complete, y.complete = true) →
    (∀ y ∈ kept.head?, y.complete = false) →
    exec (.slotDeadline x.epoch) s = .next (s.withDevice { p with
      now := max p.now x.deadline
      slots := kept
      held := { p.held with closes :=
        (older ++ x :: complete).map fun y => ⟨y.epoch, y.expected, y.reports⟩ } })

/-- R83, R88, R89, R110: the work of a close is the Node Table's and then that of the records 0 to 127, one after
the other; closes are worked in the order of their delivery. It is done piece by piece, and between two pieces
any row may be taken (R89, R113, R119, R126); 129 pieces are the work of one close whole. The work in hand ends
before time passes and before an event that reaches the slots (the first is log entry 22). A close leaves the
records in VACANT, DRAFT, CONFIRMED, ISOLATED and DORMANT, every setting and input of the zones, and everything
outside the tables but the SECTION and NODE flags. -/
def Obligations.CloseIsWorkedInOrderPieceByPiece : Prop :=
  (∀ (p : Device) (c : Close),
      p.workClose c = (List.finRange 128).foldl (fun q i => q.recordWork c i) (p.nodeWork c))
  ∧ (∀ p : Device, p.workCloses [] = p)
  ∧ (∀ (p : Device) (c : Close) (cs : List Close), p.workCloses (c :: cs) = (p.workClose c).workCloses cs)
  ∧ (∀ (p : Device) (c : Close) (cs : List Close), p.held.closes = c :: cs →
      (p.held.reach = none → p.workPiece = { p.nodeWork c with held := { p.held with reach := some 0 } })
        ∧ (∀ i, p.held.reach = some i → i < 127 →
            p.workPiece = { p.recordWork c i with held := { p.held with reach := some (i + 1) } })
        ∧ (p.held.reach = some 127 →
            p.workPiece = { p.recordWork c 127 with held := { p.held with closes := cs, reach := none } })
        ∧ (p.held.reach = none →
            Nat.iterate Device.workPiece 129 p = { p.workClose c with held := { p.held with closes := cs } }))
  ∧ (∀ p : Device, ∃ n, p.finishWork = Nat.iterate Device.workPiece n p
      ∧ p.finishWork.held.closes = [])
  ∧ (∀ (p : Device) (m : Moment), (m ≤ p.now → p.passTo m = p)
      ∧ (p.now < m → p.passTo m = { p.finishWork with now := m }))
  ∧ (∀ (p : Device) (c : Close),
      let q := p.workClose c
      (∀ i, (p.sections.get i).state = .vacant ∨ (p.sections.get i).state = .draft
          ∨ (p.sections.get i).state = .confirmed ∨ (p.sections.get i).state = .isolated
          ∨ (p.sections.get i).state = .dormant → q.sections.get i = p.sections.get i)
        ∧ (∀ z, q.zones.get z = { p.zones.get z with
              seq := (q.zones.get z).seq, causes := (q.zones.get z).causes, manual := (q.zones.get z).manual
              timer := (q.zones.get z).timer, latch := (q.zones.get z).latch })
        ∧ q = { p with
            nodes := q.nodes, sections := q.sections, zones := q.zones
            alerts := { p.alerts with flags := { p.alerts.flags with
              sect := q.alerts.flags.sect, node := q.alerts.flags.node } } })

/-- R69, R70, R85, R86: SET EPOCH CLOCK, which refuses a bad source and otherwise brings each setting into its
range, the grace then to half the period, and returns CLAMPED when a setting differs from what was sent;
SET EPOCH NUMBER; RESTART EVALUATION with every sequencer IDLE and with one busy. The last two reach the slots,
and are taken when the work in hand has ended (R83). -/
def Obligations.EpochClockCommandsWriteAndRestart : Prop :=
  (∀ (s : State) (per gr : Byte) (lim win : Half) (miss : Byte),
      let p := s.device
      let period := min 200 (max 10 per.toNat)
      let grace := min (min 50 (max 1 gr.toNat)) (period / 2)
      let limit := max 1 lim.toNat
      let window := min 600 (max 5 win.toNat)
      let missLimit := max 1 miss.toNat
      let code : Byte := if period = per.toNat ∧ grace = gr.toNat ∧ limit = lim.toNat
        ∧ window = win.toNat ∧ missLimit = miss.toNat then 0x00#8 else 0x01#8
      let set : ClockSource → EpochClock := fun src =>
        { p.clock with settings := ⟨src, period, grace, limit, window, missLimit⟩ }
      let free : EpochClock := { set .internal with
        lock := .free, ref := some p.now, runPeriod := period, runGrace := grace, holdover := 0,
        syncLost := false }
      let acquiring : EpochClock := { set .external with
        lock := .acquiring, ref := none, holdover := 0, syncLost := false }
      let gives := fun (src : Byte) (c : EpochClock) =>
        exec (.setEpochClock src per gr lim win miss) s = .next (s.answered { p with clock := c } [code])
      (∀ src : Byte, 2 ≤ src.toNat → exec (.setEpochClock src per gr lim win miss) s =
          .next (s.answered p [0x87#8]))
        ∧ (p.clock.settings.source = .external →
            gives 0x00#8 (set .external) ∧ gives 0x01#8 free)
        ∧ (p.clock.settings.source = .internal →
            gives 0x01#8 (set .internal) ∧ gives 0x00#8 acquiring))
  ∧ (∀ s : State,
      let p := s.device.finishWork
      (∀ n, exec (.setEpochNumber n) s =
          .next (s.answered { p with slots := [], clock := { p.clock with epoch := n } } [0x00#8]))
        ∧ ((∃ z, (p.zones.get z).seq ≠ .idle) →
            exec .restartEvaluation s = .next (s.answered p [0x88#8]))
        ∧ ((∀ z, (p.zones.get z).seq = .idle) → ∃ d, exec .restartEvaluation s =
              .next (s.answered d [0x00#8])
            ∧ d = { p with slots := [], nodes := d.nodes, sections := d.sections }
            ∧ (∀ n, d.nodes.get n =
                if (p.nodes.get n).bound then { p.nodes.get n with miss := 0 } else p.nodes.get n)
            ∧ ∀ i, d.sections.get i =
                if (p.sections.get i).state = .armed ∨ (p.sections.get i).state = .suspect
                    ∨ (p.sections.get i).state = .settling then
                  let n := (p.profiles.get (p.sections.get i).profile).settleEpochs
                  { p.sections.get i with
                    state := if n = 0 then .armed else .settling, settle := n,
                    openScore := ⟨0, 0, 0⟩, leakScore := ⟨0, 0, 0⟩, firstHit := none }
                else p.sections.get i))

/-- R76, R165: the bytes of READ EPOCH CLOCK and READ DEVICE. -/
def Obligations.ClockAndDeviceReadsReturnStatedBytes : Prop :=
  ∀ s : State,
    let p := s.device
    let c := p.clock
    let flag := fun (b : Bool) => if b then 0x01#8 else 0x00#8
    let lock : Byte := match c.lock with
      | .acquiring => 0x00#8
      | .locked => 0x01#8
      | .holdover => 0x02#8
      | .free => 0x03#8
    let source : Byte := if c.settings.source = .external then 0x00#8 else 0x01#8
    let seq : ZoneIx → Byte := fun z => match (p.zones.get z).seq with
      | .idle => 0x00#8
      | .tripping => 0x01#8
      | .hanging => 0x02#8
    let f := p.alerts.flags
    let e := p.alerts.enables
    let mark := fun (b : Bool) (v : Nat) => if b then v else 0
    exec .readEpochClock s = .next (s.answered p
        ([0x00#8, source, natByte c.settings.period, natByte c.settings.grace]
          ++ natHalf c.settings.holdoverLimit ++ natHalf c.settings.window
          ++ [natByte c.settings.missLimit, lock] ++ halfBytes c.epoch ++ natHalf c.holdover
          ++ [flag c.syncLost] ++ natHalf c.glitches ++ [natByte p.slots.length]))
      ∧ exec .readDevice s = .next (s.answered p
        ([0x00#8, 0x01#8, natByte p.link.feederId, flag p.link.amnesia] ++ halfBytes c.epoch ++ [lock]
          ++ natHalf c.holdover ++ [flag c.syncLost] ++ natHalf c.glitches ++ [natByte p.slots.length]
          ++ [natByte (mark f.sect 1 + mark f.node 2 + mark f.stranger 4 + mark f.link 8
                + mark f.sync 16 + mark p.outcomeFlag 32),
              natByte (mark e.sect 1 + mark e.node 2 + mark e.stranger 4 + mark e.link 8
                + mark e.sync 16 + mark e.outcome 32)]
          ++ [flag (p.permit 0), flag (p.permit 1), flag (p.permit 2), flag (p.permit 3)]
          ++ [seq 0, seq 1, seq 2, seq 3]))

/-! ## Nodes -/

/-- R35 to R37: BIND NODE and UNBIND NODE: the checks in order, an accepted bind, and an accepted unbind, which
takes the node out of every open slot and closes the slots that this completes as R80 to R82 have it; UNBIND
NODE reaches the slots, and is taken when the work in hand has ended (R83). -/
def Obligations.BindAndUnbindNodeCheckThenAct : Prop :=
  (∀ (s : State) (addr : Addr),
      let p := s.device
      let refused := fun (node phs code : Byte) =>
        exec (.bindNode node addr phs) s = .next (s.answered p [code])
      let free := fun (n : NodeIx) => (p.nodes.get n).bound = false
      let held := ∃ m, (p.nodes.get m).bound = true ∧ (p.nodes.get m).addr = addr
      (∀ node phs : Byte, 64 ≤ node.toNat → refused node phs 0x81#8)
        ∧ (∀ (n : NodeIx) (phs : Byte), phs.toNat = 0 ∨ 7 < phs.toNat → refused (natByte n.val) phs 0x87#8)
        ∧ ∀ (n : NodeIx) (a b c : Bool), (a || b || c) = true →
            let phs : Byte := bits8 false false false false false c b a
            (¬ free n → refused (natByte n.val) phs 0x83#8)
              ∧ (free n → held → refused (natByte n.val) phs 0x86#8)
              ∧ (free n → ¬ held → exec (.bindNode (natByte n.val) addr phs) s = .next (s.answered
                  { p with
                    nodes := p.nodes.set n { bound := true, addr := addr, phases := ⟨a, b, c⟩,
                                             health := .unheard, miss := 0, refs := 0, lastHeard := none }
                    strangers := p.strangers.mapIdx fun _ g =>
                      if g.any (fun x => x.addr == addr) then none else g } [0x00#8])))
  ∧ (∀ s : State,
      let p := s.device.finishWork
      (∀ node : Byte, 64 ≤ node.toNat → exec (.unbindNode node) s = .next (s.answered p [0x81#8]))
        ∧ ∀ n : NodeIx,
            let r := p.nodes.get n
            let unbound : Node := { bound := false, addr := 0#24, phases := ⟨false, false, false⟩,
                                    health := .unheard, miss := 0, refs := 0, lastHeard := none }
            let left : Slot → Slot := fun x =>
              let y := { x with reports := x.reports.filter fun rep => rep.node ≠ n
                                expected := x.expected.filter fun m => m ≠ n }
              { y with complete := y.complete || y.full }
            let slots := p.slots.map left
            (r.bound = false → exec (.unbindNode (natByte n.val)) s = .next (s.answered p [0x82#8]))
              ∧ (r.bound = true → 0 < r.refs →
                  exec (.unbindNode (natByte n.val)) s = .next (s.answered p [0x83#8]))
              ∧ (r.bound = true → r.refs = 0 → exec (.unbindNode (natByte n.val)) s = .next (s.answered
                  { p with
                    nodes := p.nodes.set n unbound, slots := slots.dropWhile Slot.complete
                    held := { p.held with closes :=
                      (slots.takeWhile Slot.complete).map fun y => ⟨y.epoch, y.expected, y.reports⟩ } }
                  [0x00#8])))

/-- R38: READ NODE returns the twelve bytes of the record as it stands. -/
def Obligations.ReadNodeReturnsRecord : Prop :=
  ∀ s : State,
    let p := s.device
    (∀ node : Byte, 64 ≤ node.toNat → exec (.readNode node) s = .next (s.answered p [0x81#8]))
      ∧ ∀ n : NodeIx,
          let r := p.nodes.get n
          let health : Byte := match r.health with
            | .unheard => 0x00#8
            | .live => 0x01#8
            | .stale => 0x02#8
            | .faulty => 0x03#8
          let bytes := [0x00#8, if r.bound then 0x01#8 else 0x00#8, r.addr.extractLsb' 16 8,
            r.addr.extractLsb' 8 8, r.addr.extractLsb' 0 8,
            natByte (r.phases.a.toNat + 2 * r.phases.b.toNat + 4 * r.phases.c.toNat), health, natByte r.miss,
            natByte r.refs, if r.lastHeard.isSome then 0x01#8 else 0x00#8] ++ halfBytes (r.lastHeard.getD 0#16)
          exec (.readNode (natByte n.val)) s = .next (s.answered p bytes) ∧ bytes.length = 12
            ∧ (p.nodesLawful → r.bound = false → bytes = List.replicate 12 0x00#8)

/-- R41 to R43: what a close makes of each node, and when it sets the NODE flag. -/
def Obligations.CloseUpdatesNodeHealth : Prop :=
  ∀ (p : Device) (c : Close),
    let limit := p.clock.settings.missLimit
    let after := fun n => (p.workClose c).nodes.get n
    (∀ n, (p.nodes.get n).bound = false → after n = p.nodes.get n)
      ∧ (∀ n rep, (p.nodes.get n).bound = true → (c.reports.map StoredReport.node).Nodup →
          rep ∈ c.reports → rep.node = n →
          after n = { p.nodes.get n with health := if rep.fault then .faulty else .live, miss := 0,
                                         lastHeard := some c.epoch })
      ∧ (∀ n, (p.nodes.get n).bound = true → (∀ rep ∈ c.reports, rep.node ≠ n) → n ∈ c.expected →
          let miss := min 255 ((p.nodes.get n).miss + 1)
          after n = { p.nodes.get n with
            miss := miss, health := if limit ≤ miss then .stale else (p.nodes.get n).health })
      ∧ (∀ n, (p.nodes.get n).bound = true → (∀ rep ∈ c.reports, rep.node ≠ n) → n ∉ c.expected →
          after n = p.nodes.get n)
      ∧ ((p.workClose c).alerts.flags.node = true ↔ p.alerts.flags.node = true
          ∨ ∃ n, ((after n).health = .stale ∨ (after n).health = .faulty)
            ∧ (after n).health ≠ (p.nodes.get n).health)

/-! ## Section commands -/

/-- R13 to R15, R11: CREATE SECTION: the topology checks in order, and an accepted command. -/
def Obligations.CreateSectionChecksThenCreates : Prop :=
  ∀ (s : State) (i : SecIx) (u : NodeIx) (z : ZoneIx) (pr : ProfIx) (a b c : Bool), (a || b || c) = true →
    let p := s.device
    let phs : Byte := bits8 false false false false false c b a
    let command := Instr.createSection (natByte i.val) (natByte u.val) (natByte z.val) phs (natByte pr.val)
    let vacant := (p.sections.get i).state = .vacant
    let bound := (p.nodes.get u).bound = true
    let shared := ∃ j, (p.sections.get j).live ∧ (p.sections.get j).upstream = u
    let covers := PhaseSet.contains (p.nodes.get u).phases ⟨a, b, c⟩ = true
    (¬ vacant → exec command s = .next (s.answered p [0x82#8]))
      ∧ (vacant → ¬ bound → exec command s = .next (s.answered p [0x84#8]))
      ∧ (vacant → bound → shared → exec command s = .next (s.answered p [0x83#8]))
      ∧ (vacant → bound → ¬ shared → ¬ covers → exec command s = .next (s.answered p [0x84#8]))
      ∧ (vacant → bound → ¬ shared → covers → exec command s = .next (s.answered
          { p with
            sections := p.sections.set i
              { state := .draft, upstream := u, downstream := [], zone := z, phases := ⟨a, b, c⟩,
                profile := pr, tap := ⟨0, 0, 0⟩, openScore := ⟨0, 0, 0⟩, leakScore := ⟨0, 0, 0⟩,
                settle := 0, mark := .none, escalated := false, inconsistent := false, cause := none,
                firstHit := none, confirmEpoch := none }
            nodes := p.nodes.set u { p.nodes.get u with refs := (p.nodes.get u).refs + 1 } } [0x00#8]))

/-- R13: an index out of range is refused with BAD_INDEX before any value out of range is refused with
BAD_VALUE, by every section command that takes one. -/
def Obligations.IndexChecksComeBeforeValueChecks : Prop :=
  ∀ (s : State) (i u z phs pr : Byte),
    let p := s.device
    (128 ≤ i.toNat ∨ 64 ≤ u.toNat ∨ 8 ≤ pr.toNat →
        exec (.createSection i u z phs pr) s = .next (s.answered p [0x81#8]))
      ∧ (i.toNat < 128 → u.toNat < 64 → pr.toNat < 8 →
          4 ≤ z.toNat ∨ phs.toNat = 0 ∨ 7 < phs.toNat →
          exec (.createSection i u z phs pr) s = .next (s.answered p [0x87#8]))
      ∧ (∀ n1 n2 n3 n4 ta tb tc, 128 ≤ i.toNat ∨ (∃ n ∈ [n1, n2, n3, n4], 64 ≤ n.toNat ∧ n ≠ 255#8) →
          exec (.editSection i n1 n2 n3 n4 ta tb tc) s = .next (s.answered p [0x81#8]))
      ∧ (∀ ta tb tc, 128 ≤ i.toNat ∨ 8 ≤ pr.toNat →
          exec (.tuneSection i pr ta tb tc) s = .next (s.answered p [0x81#8]))
      ∧ (∀ f c k, 128 ≤ i.toNat → exec (.scanSections i f c k) s = .next (s.answered p [0x81#8]))
      ∧ (∀ f c k, i.toNat < 128 → 6 ≤ f.toNat ∨ f.toNat ≠ 3 ∧ 3 ≤ c.toNat →
          exec (.scanSections i f c k) s = .next (s.answered p [0x87#8]))
      ∧ (128 ≤ i.toNat → ∀ c ∈ [Instr.commitSection i, .recallSection i, .acknowledgeSection i,
            .retireSection i, .readSection i], exec c s = .next (s.answered p [0x81#8]))

/-- R16, R17, R11: EDIT SECTION. The new list is the node fields that name a node, in order; the first node
that fails a check refuses the command; an accepted one installs the list, writes the taps of the record's
phases and moves the reference counts. -/
def Obligations.EditSectionChecksThenInstalls : Prop :=
  ∀ (s : State) (i : SecIx) (f1 f2 f3 f4 : Option NodeIx) (ta tb tc : Half),
    let p := s.device
    let r := p.sections.get i
    let field : Option NodeIx → Byte := fun f => (f.map fun n => natByte n.val).getD 255#8
    let command := Instr.editSection (natByte i.val) (field f1) (field f2) (field f3) (field f4) ta tb tc
    let new := [f1, f2, f3, f4].filterMap id
    let tap := fun (present : Bool) (old : Nat) (t : Half) =>
      if present then min 32767 t.toNat else old
    let clamped := (r.phases.a = true ∧ 32767 < ta.toNat) ∨ (r.phases.b = true ∧ 32767 < tb.toNat)
      ∨ (r.phases.c = true ∧ 32767 < tc.toNat)
    (r.state ≠ .draft → exec command s = .next (s.answered p [0x82#8]))
      ∧ (∀ before n rest, r.state = .draft → new = before ++ n :: rest →
          (∀ k m, before[k]? = some m → p.editFits i (before.take k) m ∧ ¬ p.downstreamElsewhere i m) →
          (¬ p.editFits i before n → exec command s = .next (s.answered p [0x84#8]))
            ∧ (p.editFits i before n → p.downstreamElsewhere i n →
              exec command s = .next (s.answered p [0x83#8])))
      ∧ (r.state = .draft →
          (∀ k m, new[k]? = some m → p.editFits i (new.take k) m ∧ ¬ p.downstreamElsewhere i m) →
          ∃ d code, exec command s = .next (s.answered d [code])
            ∧ (code = 0x01#8 ↔ clamped) ∧ (code = 0x00#8 ↔ ¬ clamped)
            ∧ d = { p with sections := d.sections, nodes := d.nodes }
            ∧ d.sections = p.sections.set i { r with
                downstream := new
                tap := ⟨tap r.phases.a r.tap.a ta, tap r.phases.b r.tap.b tb, tap r.phases.c r.tap.c tc⟩ }
            ∧ ∀ n, d.nodes.get n = { p.nodes.get n with refs :=
                if n ∈ new ∧ n ∉ r.downstream then (p.nodes.get n).refs + 1
                else if n ∈ r.downstream ∧ n ∉ new then (p.nodes.get n).refs - 1
                else (p.nodes.get n).refs })

/-- R6 to R8, R18, R22, R23: COMMIT SECTION and ACKNOWLEDGE SECTION: the states they accept, NOT_READY in
amnesia for the first alone, and the placement test; and what the entries to DRAFT, DORMANT, BLIND and
SETTLING make of a record. -/
def Obligations.CommitAndAcknowledgePlaceTheRecord : Prop :=
  (∀ (s : State) (i : SecIx),
      let p := s.device
      let r := p.sections.get i
      let commit := exec (.commitSection (natByte i.val)) s
      let acknowledge := exec (.acknowledgeSection (natByte i.val)) s
      let cleared := { r with mark := .none, escalated := false, inconsistent := false, cause := none,
                              confirmEpoch := none }
      let admitted := r.state = .suspect ∨ r.state = .isolated
        ∨ r.state = .confirmed ∧ (r.mark = .withheld ∨ r.mark = .failed)
      (r.state ≠ .draft → commit = .next (s.answered p [0x82#8]))
        ∧ (r.state = .draft → p.link.amnesia = true → commit = .next (s.answered p [0x85#8]))
        ∧ (r.state = .draft → p.link.amnesia = false →
            ∃ d, commit = .next (s.answered d [0x00#8]) ∧ p.Placed i r d)
        ∧ (¬ admitted → acknowledge = .next (s.answered p [0x82#8]))
        ∧ (admitted → ∃ d, acknowledge = .next (s.answered d [0x00#8]) ∧ p.Placed i cleared d))
  ∧ (∀ (r : SectionRec) (prof : Profile),
      let zeroed := fun (st : SecState) (n : Nat) =>
        { r with state := st, settle := n, openScore := ⟨0, 0, 0⟩, leakScore := ⟨0, 0, 0⟩, firstHit := none }
      r.enterDraft = zeroed .draft 0 ∧ r.enterDormant = zeroed .dormant 0 ∧ r.enterBlind = zeroed .blind 0
        ∧ (prof.settleEpochs ≠ 0 → r.enterSettling prof = zeroed .settling prof.settleEpochs)
        ∧ (prof.settleEpochs = 0 → r.enterSettling prof = zeroed .armed 0))

/-- R11, R19, R24: RECALL SECTION and RETIRE SECTION. -/
def Obligations.RecallAndRetireReleaseTheRecord : Prop :=
  (∀ (s : State) (i : SecIx),
      let p := s.device
      let r := p.sections.get i
      let recalled := exec (.recallSection (natByte i.val)) s
      let draft := { r with state := .draft, settle := 0, inconsistent := false, openScore := ⟨0, 0, 0⟩,
                            leakScore := ⟨0, 0, 0⟩, firstHit := none }
      (r.state = .settling ∨ r.state = .armed ∨ r.state = .suspect ∨ r.state = .blind
          ∨ r.state = .dormant →
          recalled = .next (s.answered { p with sections := p.sections.set i draft } [0x00#8])
            ∧ (∀ hazard, draft.blocks hazard = false) ∧ draft.state.expects = false)
        ∧ (r.state = .draft → recalled = .next (s.answered p [0x00#8]))
        ∧ (r.state = .confirmed ∨ r.state = .isolated ∨ r.state = .vacant →
            recalled = .next (s.answered p [0x82#8])))
  ∧ (∀ (s : State) (i : SecIx),
      let p := s.device
      let r := p.sections.get i
      let retire := exec (.retireSection (natByte i.val)) s
      (r.state = .vacant ∨ r.state = .confirmed ∧ r.mark = .pending →
          retire = .next (s.answered p [0x82#8]))
        ∧ (r.state ≠ .vacant → ¬ (r.state = .confirmed ∧ r.mark = .pending) →
            ∃ d, retire = .next (s.answered d [0x00#8])
              ∧ d = { p with sections := p.sections.set i SectionRec.vacant, nodes := d.nodes }
              ∧ ∀ n, d.nodes.get n =
                  if n = r.upstream ∨ n ∈ r.downstream then
                    { p.nodes.get n with refs := (p.nodes.get n).refs - 1 }
                  else p.nodes.get n))

/-- R20, R21: TUNE SECTION. -/
def Obligations.TuneSectionRewritesAndResettles : Prop :=
  ∀ (s : State) (i : SecIx) (pr : ProfIx) (ta tb tc : Half),
    let p := s.device
    let r := p.sections.get i
    let n := (p.profiles.get pr).settleEpochs
    let tap := fun (present : Bool) (old : Nat) (t : Half) =>
      if present then min 32767 t.toNat else old
    let clamped := (r.phases.a = true ∧ 32767 < ta.toNat) ∨ (r.phases.b = true ∧ 32767 < tb.toNat)
      ∨ (r.phases.c = true ∧ 32767 < tc.toNat)
    let tuned := { r with
      profile := pr, inconsistent := false
      tap := ⟨tap r.phases.a r.tap.a ta, tap r.phases.b r.tap.b tb, tap r.phases.c r.tap.c tc⟩ }
    let resettled := { tuned with
      state := if n = 0 then .armed else .settling, settle := n, openScore := ⟨0, 0, 0⟩,
      leakScore := ⟨0, 0, 0⟩, firstHit := none }
    let tune := exec (.tuneSection (natByte i.val) (natByte pr.val) ta tb tc) s
    let accepted := fun (q : SectionRec) => ∃ code,
      tune = .next (s.answered { p with sections := p.sections.set i q } [code])
        ∧ (code = 0x01#8 ↔ clamped) ∧ (code = 0x00#8 ↔ ¬ clamped)
    (r.state = .confirmed ∨ r.state = .isolated ∨ r.state = .vacant →
        tune = .next (s.answered p [0x82#8]))
      ∧ (r.state = .armed ∨ r.state = .suspect ∨ r.state = .settling → accepted resettled)
      ∧ (r.state = .draft ∨ r.state = .blind ∨ r.state = .dormant → accepted tuned)

/-- R25, R26, R185: the 31 bytes of READ SECTION, offset by offset. -/
def Obligations.ReadSectionReturnsRecordByOffsets : Prop :=
  ∀ (s : State) (i : SecIx),
    let p := s.device
    let r := p.sections.get i
    let stateCode := match r.state with
      | .vacant => 0
      | .draft => 1
      | .settling => 2
      | .armed => 3
      | .suspect => 4
      | .confirmed => 5
      | .isolated => 6
      | .blind => 7
      | .dormant => 8
    let markCode := match r.mark with
      | .none => 0
      | .pending => 1
      | .withheld => 2
      | .failed => 3
    ∃ bytes, exec (.readSection (natByte i.val)) s = .next (s.answered p bytes)
      ∧ bytes.length = 31 ∧ bytes.getD 0 0xFF#8 = 0x00#8
      ∧ (r.state = .vacant → ∀ k, 1 ≤ k → k ≤ 30 → bytes.getD k 0xFF#8 = 0x00#8)
      ∧ (r.live →
          let at' := fun k => (bytes.getD k 0xFF#8).toNat
          let word := fun k => 256 * at' k + at' (k + 1)
          at' 1 = stateCode ∧ at' 2 = r.upstream.val
            ∧ (∀ k, k < 4 → at' (3 + k) = (r.downstream[k]?.map Fin.val).getD 255)
            ∧ at' 7 = r.zone.val ∧ at' 9 = r.profile.val
            ∧ at' 8 = r.phases.a.toNat + 2 * r.phases.b.toNat + 4 * r.phases.c.toNat
            ∧ (r.lawful →
                word 10 = r.tap.a ∧ word 12 = r.tap.b ∧ word 14 = r.tap.c
                  ∧ at' 16 = r.openScore.a ∧ at' 17 = r.openScore.b ∧ at' 18 = r.openScore.c
                  ∧ at' 19 = r.leakScore.a ∧ at' 20 = r.leakScore.b ∧ at' 21 = r.leakScore.c
                  ∧ at' 22 = r.settle)
            ∧ at' 23 = markCode
            ∧ at' 24 = 2 * r.inconsistent.toNat + r.escalated.toNat
            ∧ at' 25 = (match r.cause with
              | none => 0
              | some ⟨kind, ph⟩ => 128 + (if kind = .ground then 64 else 0)
                  + (match ph with
                    | .a => 0
                    | .b => 1
                    | .c => 2))
            ∧ at' 26 = 2 * r.confirmEpoch.isSome.toNat + r.firstHit.isSome.toNat
            ∧ word 27 = (r.firstHit.getD 0#16).toNat ∧ word 29 = (r.confirmEpoch.getD 0#16).toNat)

/-- R26 to R28: SCAN SECTIONS stops at the first live record at or after the start that meets the test, and
returns NONE when there is none; the state codes that the test and the result use. -/
def Obligations.ScanSectionsFindsFirstMatch : Prop :=
  ∀ (s : State) (start : SecIx) (field comparison key : Byte), field.toNat < 6 →
    field.toNat = 3 ∨ comparison.toNat < 3 →
    let p := s.device
    let stateCode : SecState → Nat := fun st => match st with
      | .vacant => 0
      | .draft => 1
      | .settling => 2
      | .armed => 3
      | .suspect => 4
      | .confirmed => 5
      | .isolated => 6
      | .blind => 7
      | .dormant => 8
    let scan := exec (.scanSections (natByte start.val) field comparison key) s
    let hit := fun i => (p.sections.get i).live ∧ (p.sections.get i).scanTest field comparison key
    (∀ st : SecState, st.code = stateCode st)
      ∧ ((∀ i, start ≤ i → ¬ hit i) → scan = .next (s.answered p [0x02#8]))
      ∧ ∀ i, start ≤ i → hit i → (∀ j, start ≤ j → j < i → ¬ hit j) →
          let r := p.sections.get i
          scan = .next (s.answered p [0x00#8, natByte i.val, natByte (stateCode r.state), natByte r.zone.val,
            natByte (max r.openScore.a (max r.openScore.b r.openScore.c)),
            natByte (max r.leakScore.a (max r.leakScore.b r.leakScore.c))])

/-! ## Profiles and evaluation -/

/-- R117, R118, R121: LOAD PROFILE clamps each field, then brings each suspect level down to its trip level;
READ PROFILE returns the twelve fields as held. -/
def Obligations.ProfileCommandsClampThenOrderAndRead : Prop :=
  ∀ (s : State) (ll orr lm lu rt : Half) (st os ot ld ls lt se : Byte),
    let p := s.device
    let load := fun (index : Byte) => exec (.loadProfile index ll orr st os ot lm lu ld ls lt rt se) s
    let into := fun (lo hi n : Nat) => if n < lo then lo else if hi < n then hi else n
    let openTrip := into 1 255 ot.toNat
    let leakTrip := into 1 255 lt.toNat
    let openFirst := into 1 255 os.toNat
    let leakFirst := into 1 255 ls.toNat
    let written : Profile :=
      ⟨into 1 2047 ll.toNat, into 0 2047 orr.toNat, into 1 64 st.toNat,
        if openTrip < openFirst then openTrip else openFirst, openTrip, into 1 32767 lm.toNat,
        into 1 32767 lu.toNat, ld.toNat, if leakTrip < leakFirst then leakTrip else leakFirst, leakTrip,
        into 0 32767 rt.toNat, se.toNat⟩
    let sent : Profile := ⟨ll.toNat, orr.toNat, st.toNat, os.toNat, ot.toNat, lm.toNat, lu.toNat, ld.toNat,
      ls.toNat, lt.toNat, rt.toNat, se.toNat⟩
    (∀ index : Byte, 8 ≤ index.toNat → load index = .next (s.answered p [0x81#8])
        ∧ exec (.readProfile index) s = .next (s.answered p [0x81#8]))
      ∧ ∀ i : ProfIx,
          let f := p.profiles.get i
          load (natByte i.val) = .next (s.answered { p with profiles := p.profiles.set i written }
              [if written = sent then 0x00#8 else 0x01#8])
            ∧ exec (.readProfile (natByte i.val)) s = .next (s.answered p
              ([0x00#8] ++ natHalf f.liveLevel ++ natHalf f.openRatio
                ++ [natByte f.openStep, natByte f.openSuspect, natByte f.openTrip] ++ natHalf f.leakMin
                ++ natHalf f.leakUnit ++ [natByte f.leakDecay, natByte f.leakSuspect, natByte f.leakTrip]
                ++ natHalf f.reverseTol ++ [natByte f.settleEpochs]))

/-- R92 to R100: one phase of an evaluable record: the source test, the continuity ratio, the residual, and
what they make of the two scores. -/
def Obligations.PhaseTestsMoveScores : Prop :=
  ∀ (prof : Profile) (f : PhaseFigures) (motion : Bool) (openScore leakScore : Nat),
    let res := phaseResult prof f
    let newOpen := newOpenScore prof motion res openScore
    let newLeak := newLeakScore prof res leakScore
    let held := newOpen = openScore ∧ newLeak = leakScore ∧ res.hit = false
    let q := fun v => min 2047 (1024 * v / f.vu)
    let r : Int := (f.iu : Int) - (f.id.sum : Int) - (f.tap : Int)
    (f.vu < prof.liveLevel → held ∧ res.passed = false ∧ res ≠ .inconsistent)
      ∧ (prof.liveLevel ≤ f.vu → r < -(prof.reverseTol : Int) →
          held ∧ res.passed = true ∧ res = .inconsistent)
      ∧ (prof.liveLevel ≤ f.vu → -(prof.reverseTol : Int) ≤ r →
          res.passed = true ∧ res ≠ .inconsistent
            ∧ (f.vd = [] → newOpen = openScore)
            ∧ (∀ v ∈ f.vd, (∀ w ∈ f.vd, v ≤ w) →
                (q v < prof.openRatio →
                    newOpen = min 255 (openScore + (if motion then 2 * prof.openStep else prof.openStep)))
                  ∧ (prof.openRatio ≤ q v → newOpen = openScore - 1))
            ∧ ((prof.leakMin : Int) ≤ r →
                newLeak = min 255 (leakScore + min 15 (1 + ((r - prof.leakMin) / prof.leakUnit).toNat)))
            ∧ (r < (prof.leakMin : Int) → newLeak = leakScore - prof.leakDecay)
            ∧ (res.hit = true ↔ (prof.leakMin : Int) ≤ r ∨ ∃ v ∈ f.vd, q v < prof.openRatio))

/-- R44 to R46, R90: a close moves an ARMED or SETTLING record of a dead zone to DORMANT and one that names a
bad node to BLIND, returns a BLIND record that has recovered, and holds a record that lacks a good report of
some node it names. -/
def Obligations.CloseMovesOrHoldsRecord : Prop :=
  ∀ (p : Device) (c : Close) (i : SecIx),
    let r := p.sections.get i
    let watched := r.state = .armed ∨ r.state = .settling
    let powered := p.energized r.zone = true
    (watched → ¬ powered → p.recordWork c i = p.setSection i r.enterDormant)
      ∧ (watched → powered → p.namesBad r →
          p.recordWork c i = (p.setSection i r.enterBlind).setSectionFlag)
      ∧ (r.state = .blind → powered → ¬ p.namesBad r →
          p.recordWork c i = p.setSection i (r.enterSettling (p.profiles.get r.profile)))
      ∧ (r.state = .blind → ¬ powered ∨ p.namesBad r → p.recordWork c i = p)
      ∧ (r.state = .suspect ∨ watched ∧ powered ∧ ¬ p.namesBad r →
          (∃ n ∈ r.nodes, ∀ rep ∈ c.reports, rep.node = n → rep.fault = true) →
          p.recordWork c i = p)

/-- R90, R91, R95, R97 to R103: a record with a good report of every node it names (`rep n` for node n): in
SETTLING its settle count falls when some phase passed; in ARMED and SUSPECT its scores move and the decision
is made on them. An INCONSISTENT phase sets the record's flag and the SECTION flag. -/
def Obligations.CloseSettlesOrScoresRecord : Prop :=
  ∀ (p : Device) (c : Close) (i : SecIx) (rep : NodeIx → StoredReport),
    let r := p.sections.get i
    let prof := p.profiles.get r.profile
    let figures : Phase → PhaseFigures := fun ph =>
      { vu := (rep r.upstream).voltage.get ph
        iu := (rep r.upstream).current.get ph
        vd := r.downstream.map fun n => (rep n).voltage.get ph
        id := r.downstream.map fun n => (rep n).current.get ph
        tap := r.tap.get ph }
    let res := fun ph => phaseResult prof (figures ph)
    let some_ : (PhaseResult → Bool) → Bool := fun test =>
      [Phase.a, Phase.b, Phase.c].any fun ph => r.phases.get ph && test (res ph)
    let bad := some_ fun x => x == .inconsistent
    let motion := r.nodes.any fun n => (rep n).motion
    let flagged : Device → Device := fun d => if bad then d.setSectionFlag else d
    let noted : SectionRec := { r with inconsistent := r.inconsistent || bad }
    let score : (PhaseResult → Nat → Nat) → PerPhase Nat → PerPhase Nat := fun move old =>
      PerPhase.ofFn fun ph => if r.phases.get ph then move (res ph) (old.get ph) else old.get ph
    let scored : SectionRec := { noted with
      openScore := score (newOpenScore prof motion) r.openScore
      leakScore := score (newLeakScore prof) r.leakScore
      firstHit := if r.firstHit = none ∧ some_ PhaseResult.hit = true then some c.epoch else r.firstHit }
    (c.reports.map StoredReport.node).Nodup →
    (∀ n ∈ r.nodes, rep n ∈ c.reports ∧ (rep n).node = n ∧ (rep n).fault = false) →
    (r.state = .settling → p.energized r.zone = true → ¬ p.namesBad r →
        (some_ PhaseResult.passed = false → p.recordWork c i = p)
          ∧ ∀ n, some_ PhaseResult.passed = true → r.settle = n + 1 →
              p.recordWork c i = flagged (p.setSection i { noted with
                settle := n, state := if n = 0 then .armed else .settling }))
      ∧ (r.state = .suspect ∨ r.state = .armed ∧ p.energized r.zone = true ∧ ¬ p.namesBad r →
          p.recordWork c i = (flagged p).carryOut i c.epoch scored)

/-- R104 to R109, R111, R123: the transition decision on a record standing as `r` after the close's score
changes: the first step that holds decides. -/
def Obligations.DecisionTakesFirstStep : Prop :=
  ∀ (p : Device) (i : SecIx) (epoch : Half) (r : SectionRec), r.state = .armed ∨ r.state = .suspect →
    let prof := p.profiles.get r.profile
    let hazard := (p.zones.get r.zone).hazard
    let trip := if hazard = .extreme then max prof.openSuspect ((prof.openTrip + 1) / 2) else prof.openTrip
    let first := fun (score : PerPhase Nat) (ph : Phase) =>
      (∀ x, score.get x ≤ score.get ph) ∧ ∀ x, Phase.code x < Phase.code ph → score.get x < score.get ph
    let confirmed := fun (kind : CauseKind) (ph : Phase) => Device.tripRequest
      (p.setSection i { r with
        state := .confirmed, settle := 0, mark := .none, escalated := false, cause := some ⟨kind, ph⟩,
        confirmEpoch := some epoch }).setSectionFlag i
    let opens := ∃ x, trip ≤ r.openScore.get x
    let grounds := hazard ≠ .normal ∧ ∃ x, prof.leakTrip ≤ r.leakScore.get x
    let suspects := ∃ x, prof.openSuspect ≤ r.openScore.get x ∨ prof.leakSuspect ≤ r.leakScore.get x
    let out := p.carryOut i epoch r
    (∀ ph, opens → first r.openScore ph → out = confirmed .openLine ph)
      ∧ (∀ ph, ¬ opens → grounds → first r.leakScore ph → out = confirmed .ground ph)
      ∧ (¬ opens → ¬ grounds → suspects → r.state = .armed →
          out = (p.setSection i { r with state := .suspect }).setSectionFlag)
      ∧ (¬ opens → ¬ grounds → suspects → r.state = .suspect → out = p.setSection i r)
      ∧ (¬ opens → ¬ grounds → ¬ suspects → r.state = .suspect → r.scoresZero →
          out = p.setSection i { r with state := .armed })
      ∧ (¬ opens → ¬ grounds → ¬ suspects → r.state = .armed ∨ ¬ r.scoresZero → out = p.setSection i r)
      ∧ (prof.lawful → 1 ≤ trip ∧ prof.openSuspect ≤ trip ∧ trip ≤ prof.openTrip)

/-! ## Zones, trips and breaker edges -/

/-- R141, R142, R152, R153: the answer to a trip request by the first case that applies, and what zone 0 makes
of sections escalated to it. -/
def Obligations.TripRequestIsAnsweredByFirstCase : Prop :=
  ∀ (p : Device) (i : SecIx) (l : List SecIx),
    let r := p.sections.get i
    let y := p.zones.get r.zone
    let marked := fun (m : TripMark) => p.sections.set i { r with mark := m }
    let top := p.zones.get 0
    let each := fun (f : SectionRec → SectionRec) => p.sections.mapIdx fun j x => if j ∈ l then f x else x
    let opened : Zone → Bool → Option SecIx → Nat → Zone := fun z escalated head count =>
      { z with latch := some ⟨.alreadyOpen, true, false, escalated, head, count, z.latch.isSome⟩ }
    let started : Zone → List SecIx → Zone := fun z causes =>
      { z with seq := .tripping, causes := causes, timer := some (p.now + z.tripTimeout * 4096) }
    (y.tripEnable = false → p.tripRequest i = { p with sections := marked .withheld })
      ∧ (y.tripEnable = true → y.seq = .idle → y.isOpen = false →
          p.tripRequest i =
            { p with sections := marked .pending, zones := p.zones.set r.zone (started y [i]) })
      ∧ (y.tripEnable = true → y.seq = .idle → y.isOpen = true →
          p.tripRequest i =
            { p with sections := p.sections.set i { r with state := .isolated, mark := .none, settle := 0 }
                     zones := p.zones.set r.zone (opened y false (some i) 1) })
      ∧ (y.tripEnable = true → y.seq = .tripping → p.tripRequest i =
          { p with sections := marked .pending
                   zones := p.zones.set r.zone { y with causes := y.causes ++ [i] } })
      ∧ (y.tripEnable = true → y.seq = .hanging → r.zone = 0 ∨ y.escalationEnable = false →
          p.tripRequest i = { p with sections := marked .failed })
      ∧ (y.tripEnable = true → y.seq = .hanging → r.zone ≠ 0 → y.escalationEnable = true →
          p.tripRequest i = p.escalate [i])
      ∧ (top.seq = .hanging ∨ top.tripEnable = false →
          p.escalate l = { p with sections := each fun x => { x with mark := .failed } })
      ∧ (top.tripEnable = true → top.seq = .idle → top.isOpen = false → p.escalate l =
          { p with sections := each fun x => { x with mark := .pending, escalated := true }
                   zones := p.zones.set 0 { started top l with manual := false } })
      ∧ (top.tripEnable = true → top.seq = .idle → top.isOpen = true → l ≠ [] → p.escalate l =
          { p with sections := each fun x =>
                     { x with state := .isolated, mark := .none, settle := 0, escalated := true }
                   zones := p.zones.set 0 (opened top true l.head? l.length) })
      ∧ (top.tripEnable = true → top.seq = .tripping → p.escalate l =
          { p with sections := each fun x => { x with mark := .pending, escalated := true }
                   zones := p.zones.set 0 { top with causes := top.causes ++ l } })

/-- R133: a change of level on a BRK line, and the end of a debounce interval; a level that becomes stable
flips the debounced state and makes an edge. A change before the interval ends abandons it; a pending level held
until its end has become the stable level first, and a trip timer that ran out before both has expired (R146):
`intervalUpTo` and `timerUpTo`. A row for a level already there, or for an interval that does not run, changes
nothing but the time (log entries 4 to 6). -/
def Obligations.BreakerLevelsAreDebounced : Prop :=
  let turned : Device → ZoneIx → Bool → Device := fun q z level =>
    let y := q.zones.get z
    let d : Device := { q with zones := q.zones.set z { y with stable := level, interval := none } }
    if y.isOpen then d.closeEdge z else d.openEdge z
  (∀ (s : State) (m : Moment) (z : ZoneIx) (high : Bool),
    let p := s.device
    let change := exec (.brkLevelChange m z.val high) s
    let reached := max p.now m
    let q := ((p.timerUpTo z reached).intervalUpTo z reached).passTo m
    let y := q.zones.get z
    let changed : Option Debounce → Device := fun interval =>
      { q with zones := q.zones.set z { y with pin := high, interval := interval } }
    ((p.zones.get z).pin = high → change = .next (s.withDevice (p.passTo m)))
      ∧ ((p.zones.get z).pin ≠ high →
          (y.stable = high → change = .next (s.withDevice (changed none)))
            ∧ (y.stable ≠ high → y.debounce ≠ 0 →
                change = .next (s.withDevice (changed (some ⟨high, q.now + y.debounce * 4096⟩))))
            ∧ (y.stable ≠ high → y.debounce = 0 →
                change = .next (s.withDevice (turned (changed none) z high))))
      ∧ ∀ k, 4 ≤ k → exec (.brkLevelChange m k high) s = .next s ∧ exec (.debounceExpiry k) s = .next s
          ∧ exec (.tripTimeout k) s = .next s)
  ∧ (∀ (s : State) (z : ZoneIx),
      let p := s.device
      let ends := exec (.debounceExpiry z.val) s
      ends = .next (s.withDevice (p.debounceExpiry z))
        ∧ ((p.zones.get z).interval = none → ends = .next s)
        ∧ ∀ d, (p.zones.get z).interval = some d → d.level ≠ ((p.passTo d.ends).zones.get z).stable →
            ends = .next (s.withDevice (turned (p.passTo d.ends) z d.level)))
  ∧ ∀ (p : Device) (z : ZoneIx) (m : Moment),
      let interval := (p.zones.get z).interval
      let timer := (p.zones.get z).timer
      (interval = none → p.intervalUpTo z m = p)
        ∧ (∀ d, interval = some d → m < d.ends → p.intervalUpTo z m = p)
        ∧ (∀ d, interval = some d → d.ends ≤ m → p.intervalUpTo z m = p.debounceExpiry z)
        ∧ (timer = none → p.timerUpTo z m = p)
        ∧ (∀ x, timer = some x → m ≤ x ∨ (∃ d, interval = some d ∧ d.ends ≤ x) → p.timerUpTo z m = p)
        ∧ ∀ x, timer = some x → x < m → (∀ d, interval = some d → x < d.ends) →
            .next (State.mk (p.timerUpTo z m) []) = exec (.tripTimeout z.val) (State.mk p [])

/-- R136, R145, R148, R152: an open edge of zone z: the records it sends to DORMANT, the records that the end
of a trip isolates, and the outcome that a TRIPPING or HANGING sequencer latches on its return to IDLE. The edge
is taken once the zone's breaker reads OPEN, so of the trip laws only those of the cause lists are a premise. -/
def Obligations.OpenEdgeMovesRecordsAndEndsTrip : Prop :=
  ∀ (p : Device) (z : ZoneIx), p.causesLawful →
    let y := p.zones.get z
    let q := p.openEdge z
    let failed : List SecIx := (List.finRange 128).filter fun i =>
      let r := p.sections.get i
      decide (r.state = .confirmed ∧ r.mark = .failed ∧ (if r.escalated then (0 : ZoneIx) else r.zone) = z)
    let list := match y.seq with
      | .idle => []
      | .tripping => y.causes
      | .hanging => failed
    let ended : OutcomeKind → Zone := fun kind => { y with
      seq := .idle, causes := [], manual := false, timer := none
      latch := some ⟨kind, !list.isEmpty, y.manual, list.any fun i => (p.sections.get i).escalated,
        list.head?, list.length, y.latch.isSome⟩ }
    q = { p with sections := q.sections, zones := q.zones }
      ∧ (∀ i, let r := p.sections.get i
          let moved := (z = 0 ∨ r.zone = z) ∧ (r.state = .armed ∨ r.state = .settling ∨ r.state = .blind)
          (moved → q.sections.get i = { r with
              state := .dormant, settle := 0, openScore := ⟨0, 0, 0⟩, leakScore := ⟨0, 0, 0⟩,
              firstHit := none })
            ∧ (i ∈ list → q.sections.get i = { r with state := .isolated, mark := .none, settle := 0 })
            ∧ (¬ moved → i ∉ list → q.sections.get i = r))
      ∧ (y.seq = .idle → q.zones = p.zones)
      ∧ (y.seq = .tripping → q.zones = p.zones.set z (ended .opened))
      ∧ (y.seq = .hanging → q.zones = p.zones.set z (ended .lateOpen))

/-- R137, R8: a close edge of zone z sends each DORMANT record that it energizes to BLIND, setting SECTION, or
to SETTLING, and does nothing else. -/
def Obligations.CloseEdgeWakesDormantRecords : Prop :=
  ∀ (p : Device) (z : ZoneIx),
    let q := p.closeEdge z
    let woken := fun i => (p.sections.get i).state = .dormant
      ∧ (z = 0 ∨ (p.sections.get i).zone = z) ∧ p.energized (p.sections.get i).zone = true
    (∀ i, let r := p.sections.get i
      (woken i → p.namesBad r → q.sections.get i = r.enterBlind)
        ∧ (woken i → ¬ p.namesBad r →
            q.sections.get i = r.enterSettling (p.profiles.get r.profile))
        ∧ (¬ woken i → q.sections.get i = r))
      ∧ q = { p with
          sections := q.sections
          alerts := { p.alerts with flags := { p.alerts.flags with sect := q.alerts.flags.sect } } }
      ∧ (q.alerts.flags.sect = true ↔
          p.alerts.flags.sect = true ∨ ∃ i, woken i ∧ p.namesBad (p.sections.get i))

/-- R146, R147, R152, R153: the expiry of the trip timer of a TRIPPING zone. The moment is the timer's, or now
when that has passed (log entries 4 and 5); `p` is the part once time has passed to it. -/
def Obligations.TripTimeoutFailsOrEscalates : Prop :=
  ∀ (s : State) (z : ZoneIx),
    (∀ t, (s.device.zones.get z).seq = .tripping → (s.device.zones.get z).timer = some t →
        let p := s.device.passTo t
        let y := p.zones.get z
        let top := p.zones.get 0
        let raised := z ≠ 0 ∧ y.escalationEnable = true ∧ y.causes ≠ []
        let carried := y.causes.any fun i => (p.sections.get i).escalated
        let taken := top.seq != .hanging && top.tripEnable
        let hung : Bool → Device := fun escalated => { p with
          zones := p.zones.set z { y with
            seq := .hanging, causes := [], timer := none
            latch := some ⟨.failed, !y.causes.isEmpty, y.manual, escalated, y.causes.head?, y.causes.length,
              y.latch.isSome⟩ } }
        (raised → exec (.tripTimeout z.val) s =
            .next (s.withDevice ((hung (taken || carried)).escalate y.causes)))
          ∧ (¬ raised → exec (.tripTimeout z.val) s = .next (s.withDevice { hung carried with
              sections := p.sections.mapIdx fun i r =>
                if i ∈ y.causes then { r with mark := .failed } else r })))
      ∧ ((s.device.zones.get z).seq ≠ .tripping → exec (.tripTimeout z.val) s = .next s)

/-- R130 to R132, R134, R143: SET ZONE writes the settings, takes the edge that the polarity makes, then lets
the WITHHELD records of a zone whose trip enable turned on send their requests in ascending index; READ ZONE
returns the zone. -/
def Obligations.ZoneCommandsWriteAndRead : Prop :=
  ∀ (s : State) (t : Half) (debounce : Byte),
    let p := s.device
    (∀ (zone h te ee pol : Byte), 4 ≤ zone.toNat →
        exec (.setZone zone h te ee t debounce pol) s = .next (s.answered p [0x81#8])
          ∧ exec (.readZone zone) s = .next (s.answered p [0x81#8]))
      ∧ (∀ (z : ZoneIx) (h te ee pol : Byte),
          2 < h.toNat ∨ 1 < te.toNat ∨ 1 < ee.toNat ∨ 1 < pol.toNat →
          exec (.setZone (natByte z.val) h te ee t debounce pol) s = .next (s.answered p [0x87#8]))
      ∧ (∀ (z : ZoneIx) (hazard : Hazard) (te ee lowOpen : Bool),
          let y := p.zones.get z
          let hazardByte : Byte := match hazard with
            | .normal => 0x00#8
            | .elevated => 0x01#8
            | .extreme => 0x02#8
          let flag := fun (b : Bool) => if b then 0x01#8 else 0x00#8
          let timeout := min 2000 (max 20 t.toNat)
          let settle := min 20 debounce.toNat
          let new : Zone := { y with
            hazard := hazard, tripEnable := te, escalationEnable := ee, tripTimeout := timeout
            debounce := settle, polarity := if lowOpen then .lowOpen else .highOpen }
          let written : Device := { p with zones := p.zones.set z new }
          let turned := if new.isOpen = y.isOpen then written
            else if new.isOpen then written.openEdge z else written.closeEdge z
          let released := (List.finRange 128).foldl (fun (d : Device) i =>
            if (d.sections.get i).state = .confirmed ∧ (d.sections.get i).mark = .withheld
                ∧ (d.sections.get i).zone = z then d.tripRequest i else d) turned
          exec (.setZone (natByte z.val) hazardByte (flag te) (flag ee) t debounce (flag lowOpen)) s =
            .next (s.answered (if y.tripEnable = false ∧ te = true then released else turned)
              [if timeout = t.toNat ∧ settle = debounce.toNat then 0x00#8 else 0x01#8]))
      ∧ ∀ z : ZoneIx,
          let y := p.zones.get z
          let flag := fun (b : Bool) => if b then 0x01#8 else 0x00#8
          exec (.readZone (natByte z.val)) s = .next (s.answered p
            ([0x00#8, match y.hazard with
                | .normal => 0x00#8
                | .elevated => 0x01#8
                | .extreme => 0x02#8,
              flag y.tripEnable, flag y.escalationEnable] ++ natHalf y.tripTimeout
              ++ [natByte y.debounce, flag (decide (y.polarity = .lowOpen)), flag y.isOpen,
                flag (p.energized z), match y.seq with
                  | .idle => 0x00#8
                  | .tripping => 0x01#8
                  | .hanging => 0x02#8,
                natByte y.causes.length, flag y.manual, flag y.hold, flag (p.permit z)]))

/-- R144, R149, R152 to R154: TRIP ZONE and RELEASE TRIP by the sequencer's state, and SENSE OUTCOME, which
takes the lowest-numbered full latch and empties it. -/
def Obligations.TripCommandsAnswerBySequencer : Prop :=
  ∀ s : State,
    let p := s.device
    let flag := fun (b : Bool) => if b then 0x01#8 else 0x00#8
    (∀ zone : Byte, 4 ≤ zone.toNat → exec (.tripZone zone) s = .next (s.answered p [0x81#8])
        ∧ exec (.releaseTrip zone) s = .next (s.answered p [0x81#8]))
      ∧ (∀ z : ZoneIx,
          let y := p.zones.get z
          let trip := exec (.tripZone (natByte z.val)) s
          let release := exec (.releaseTrip (natByte z.val)) s
          let changed : Zone → State := fun y' =>
            s.answered { p with zones := p.zones.set z y' } [0x00#8]
          (y.seq = .idle → y.isOpen = false → trip = .next (changed { y with
              seq := .tripping, causes := [], manual := true
              timer := some (p.now + y.tripTimeout * 4096) }))
            ∧ (y.seq = .idle → y.isOpen = true → trip = .next (changed { y with
                latch := some ⟨.alreadyOpen, false, true, false, none, 0, y.latch.isSome⟩ }))
            ∧ (y.seq = .tripping → trip = .next (changed { y with manual := true }))
            ∧ (y.seq = .hanging → trip = .next (s.answered p [0x82#8]))
            ∧ (y.seq ≠ .hanging → release = .next (s.answered p [0x82#8]))
            ∧ (y.seq = .hanging → release = .next (changed { y with
                seq := .idle, causes := [], manual := false, timer := none })))
      ∧ ((∀ z, (p.zones.get z).latch = none) → exec .senseOutcome s = .next (s.answered p [0x02#8]))
      ∧ ∀ (z : ZoneIx) (o : OutcomeRec), (p.zones.get z).latch = some o →
          (∀ w, w < z → (p.zones.get w).latch = none) →
          let kind : Byte := match o.kind with
            | .opened => 0x00#8
            | .alreadyOpen => 0x01#8
            | .failed => 0x02#8
            | .lateOpen => 0x03#8
          exec .senseOutcome s = .next (s.answered
            { p with zones := p.zones.set z { p.zones.get z with latch := none } }
            [0x00#8, natByte z.val, kind, flag o.sectionCauses, flag o.manual, flag o.escalated,
              flag o.first.isSome, natByte ((o.first.map Fin.val).getD 0), natByte o.count,
              flag o.overwritten])

/-! ## Permissives and alerts -/

/-- R159, R163, R164: HOLD PERMIT, CLEAR ALERTS and SET ALERT ENABLE. -/
def Obligations.HoldAndAlertCommandsWriteFlags : Prop :=
  ∀ s : State,
    let p := s.device
    let f := p.alerts.flags
    (∀ zone hold : Byte, 4 ≤ zone.toNat → exec (.holdPermit zone hold) s = .next (s.answered p [0x81#8]))
      ∧ (∀ (z : ZoneIx) (hold : Byte), 1 < hold.toNat →
          exec (.holdPermit (natByte z.val) hold) s = .next (s.answered p [0x87#8]))
      ∧ (∀ (z : ZoneIx) (hold : Bool),
          exec (.holdPermit (natByte z.val) (if hold then 0x01#8 else 0x00#8)) s = .next (s.answered
            { p with zones := p.zones.set z { p.zones.get z with hold := hold } } [0x00#8]))
      ∧ (∀ mask : Byte, 64 ≤ mask.toNat →
          exec (.clearAlerts mask) s = .next (s.answered p [0x87#8])
            ∧ exec (.setAlertEnable mask) s = .next (s.answered p [0x87#8]))
      ∧ ∀ sect node stranger link sync outcome : Bool,
          let mark := fun (b : Bool) (v : Nat) => if b then v else 0
          let mask : Byte := natByte (mark sect 1 + mark node 2 + mark stranger 4 + mark link 8
            + mark sync 16 + mark outcome 32)
          exec (.clearAlerts mask) s = .next (s.answered { p with alerts := { p.alerts with flags :=
              ⟨f.sect && !sect, f.node && !node, f.stranger && !stranger, f.link && !link,
                f.sync && !sync⟩ } } [0x00#8])
            ∧ exec (.setAlertEnable mask) s = .next (s.answered { p with alerts := { p.alerts with
              enables := ⟨sect, node, stranger, link, sync, outcome⟩ } } [0x00#8])

/-- R125, R133, R135, R139, R155, R156, R161, R162: the conditions behind PERMIT_z, TRIP_z, OUTCOME and ALERT_N;
when a zone is energized, and when its breaker reads OPEN. -/
def Obligations.LinesFollowTheirConditions : Prop :=
  ∀ p : Device,
    let f := p.alerts.flags
    let e := p.alerts.enables
    let blocks := fun (r : SectionRec) => r.state = .suspect ∨ r.state = .confirmed ∨ r.state = .isolated
      ∨ r.state = .blind ∧ (p.zones.get r.zone).hazard = .extreme
    (p.permit 0 = true ↔ (∀ z, (p.zones.get z).seq = .idle) ∧ (p.zones.get 0).hold = false
        ∧ ∀ i, ¬ blocks (p.sections.get i))
      ∧ (∀ z : ZoneIx, z ≠ 0 → (p.permit z = true ↔ (p.zones.get z).seq = .idle
          ∧ (p.zones.get z).hold = false
          ∧ ∀ i, (p.sections.get i).zone = z → ¬ blocks (p.sections.get i)))
      ∧ (∀ z : ZoneIx, p.trip z = true ↔
          (p.zones.get z).seq = .tripping ∨ (p.zones.get z).seq = .hanging)
      ∧ (∀ z : ZoneIx, p.energized z = true ↔
          (p.zones.get z).isOpen = false ∧ (p.zones.get 0).isOpen = false)
      ∧ (∀ y : Zone, y.isOpen = true ↔ y.polarity = .highOpen ∧ y.stable = true
          ∨ y.polarity = .lowOpen ∧ y.stable = false)
      ∧ (p.outcomeFlag = true ↔ ∃ z, (p.zones.get z).latch ≠ none)
      ∧ (p.alertN = false ↔ (f.sect = true ∧ e.sect = true) ∨ (f.node = true ∧ e.node = true)
          ∨ (f.stranger = true ∧ e.stranger = true) ∨ (f.link = true ∧ e.link = true)
          ∨ (f.sync = true ∧ e.sync = true) ∨ (p.outcomeFlag = true ∧ e.outcome = true))

/-! ## The Host Port -/

/-- R168 to R177, R179: the bytes of a transaction. Each next byte on MISO is fixed as the byte before it
completes: the status byte as it then stands, the result byte at the read position, or 00h. The moment of a transaction
start is log entry 4. The status byte that begins as a command completes shows EXECUTING at these rows, and the
taking of the command may still move it on: log entry 12, the statement on host commands' results. -/
def Obligations.TransactionBytesMovePort : Prop :=
  ∀ (s : State) (m : Moment) (b : Byte),
    let p := s.device
    let h := p.port
    let gives := fun (c : Instr) (d : Device) => exec c s = .next (s.withDevice d)
    let status : HostPort → Device := fun h' =>
      { p with port := { h' with miso := some (Device.statusByte { p with port := h' }) } }
    let byte : HostPort → Byte → Device := fun h' x => { p with port := { h' with miso := some x } }
    (h.csLow = false →
        let q := p.passTo m
        let h' : HostPort := { q.port with csLow := true, xfer := .access }
        gives (.transactionStart m)
          { q with port := { h' with miso := some (Device.statusByte { q with port := h' }) } })
      ∧ (h.csLow = true → gives (.transactionStart m) (p.passTo m))
      ∧ (h.xfer = .access →
          gives (.accessByte 0xA0#8) (status { h with xfer := .status })
            ∧ gives (.accessByte 0xA1#8) (status { h with xfer := .write })
            ∧ (h.state = .result → gives (.accessByte 0xA2#8)
                (byte { h with xfer := .readResult } (h.result.getD h.readPos 0x00#8)))
            ∧ (h.state ≠ .result → gives (.accessByte 0xA2#8)
                (byte { h with xfer := .readNothing } 0x00#8))
            ∧ (b ≠ 0xA0#8 → b ≠ 0xA1#8 → b ≠ 0xA2#8 →
                gives (.accessByte b) (byte { h with xfer := .ignored } 0x00#8)))
      ∧ (h.xfer = .write → h.state = .idle →
          (paramCount b = none → gives (.codeByte b)
              (status { h with state := .result, cmd := [], result := [0x80#8], readPos := 0, begun := none }))
            ∧ (paramCount b = some 0 →
                gives (.codeByte b) (status { h with state := .executing, cmd := [b], begun := some p.now }))
            ∧ (∀ n, paramCount b = some (n + 1) →
                gives (.codeByte b) (status { h with state := .collecting, cmd := [b] })))
      ∧ (∀ code ps n, h.xfer = .write → h.state = .collecting → h.cmd = code :: ps →
          paramCount code = some n →
          (ps.length + 1 < n → gives (.parameterByte b) (status { h with cmd := h.cmd ++ [b] }))
            ∧ (ps.length + 1 = n →
                gives (.parameterByte b)
                  (status { h with state := .executing, cmd := h.cmd ++ [b], begun := some p.now })))
      ∧ (h.xfer = .write → h.state = .executing ∨ h.state = .result →
          gives (.overrunByte b) (status { h with overrun := true, begun := none }))
      ∧ (h.xfer = .readResult → h.state = .result →
          (h.readPos + 1 < h.result.length → gives .resultByteRead
              (byte { h with readPos := h.readPos + 1 } (h.result.getD (h.readPos + 1) 0x00#8)))
            ∧ (h.readPos + 1 = h.result.length → gives .resultByteRead
              (byte { h with state := .idle, result := [], readPos := 0 } 0x00#8)))
      ∧ (∀ shown, h.xfer = .status → h.miso = some shown → gives .statusByteRead
          (status { h with overrun := h.overrun && !shown.getLsbD 1
                           abandoned := h.abandoned && !shown.getLsbD 0 }))
      ∧ (h.csLow = true → h.state ≠ .collecting →
          gives .transactionEnd
            { p with port := { h with csLow := false, xfer := .none, miso := none, begun := none } })
      ∧ (h.csLow = true → h.state = .collecting →
          gives .transactionEnd { p with port := { h with
            state := .idle, cmd := [], abandoned := true, csLow := false, xfer := .none, miso := none
            begun := none } })

/-- R184: the positions of the indications in the status byte, its value in each port state, and the byte of
the rule's example. -/
def Obligations.StatusByteCarriesIndications : Prop :=
  ∀ p : Device,
    let bit := fun (b : Bool) (v : Nat) => if b then v else 0
    let lower := bit p.alert 16 + bit p.outcomeFlag 8 + bit p.link.amnesia 4 + bit p.port.overrun 2
      + bit p.port.abandoned 1
    p.statusByte.toNat = bit p.port.state.ready 128 + bit p.port.state.direction 64
        + bit p.port.state.busy 32 + lower
      ∧ (p.port.state = .idle → p.statusByte.toNat = 0x80 + lower)
      ∧ (p.port.state = .collecting → p.statusByte.toNat = 0xA0 + lower)
      ∧ (p.port.state = .executing → p.statusByte.toNat = 0x20 + lower)
      ∧ (p.port.state = .result → p.statusByte.toNat = 0xE0 + lower)
      ∧ (p.port.state = .result → p.outcomeFlag = true → p.alerts.enables.outcome = true →
          p.port.overrun = true → p.link.amnesia = false → p.port.abandoned = false →
          p.statusByte = 0xFA#8)

/-- R173, R178, R180, R181: every host command is taken at one step; its result begins with a result code that
fixes its length; a refused command and one that returns NONE change nothing (a command that reaches the slots is
taken when the work in hand has ended: R83). The byte on MISO stands, but where it began at this very moment, as
the command's last byte completed: there it shows the port before the taking or after it, as the free value of
log entry 12 has it. -/
def Obligations.EveryHostCommandReturnsOneResult : Prop :=
  ∀ (s : State) (c : Instr), hostCommand c →
    ∃ (t : State) (code : Byte) (rest : List Byte), exec c s = .next t ∧ t.pending = s.pending
      ∧ t.device.now = s.device.now
      ∧ t.device.port = { s.device.port with
          state := .result, cmd := [], result := code :: rest, readPos := 0, begun := none
          miso := t.device.port.miso }
      ∧ (s.device.port.begun ≠ some s.device.now →
          t.device.port.miso = s.device.port.miso ∧ t.device.choices = s.device.choices)
      ∧ (s.device.port.begun = some s.device.now → t.device.choices = s.device.choices + 1
          ∧ (t.device.port.miso = s.device.port.miso ∨ t.device.port.miso = some t.device.statusByte))
      ∧ code ∈ [0x00#8, 0x01#8, 0x02#8, 0x81#8, 0x82#8, 0x83#8, 0x84#8, 0x85#8, 0x86#8, 0x87#8, 0x88#8]
      ∧ (0x80 ≤ code.toNat → rest = []
          ∧ (¬ reachesSlots c → t = s.answered s.device [code])
          ∧ (reachesSlots c → t = s.answered s.device.finishWork [code]))
      ∧ (code = 0x02#8 → rest = [] ∧ t = s.answered s.device [code]
          ∧ (c = .senseOutcome ∨ ∃ a f k v, c = .scanSections a f k v))
      ∧ (code = 0x00#8 ∨ code = 0x01#8 → rest.length + 1 = resultLength c)

/-- R171, R172, section 9.6: a buffer spells a command exactly when it holds a known code and as many
parameter bytes as the code fixes; reading and writing command words agree both ways. -/
def Obligations.CommandWordsReadAndWriteAgree : Prop :=
  (∀ (c : Instr) (bytes : List Byte), encodeCommand c = some bytes → decodeCommand bytes = some c)
    ∧ (∀ (c : Instr) (bytes : List Byte), decodeCommand bytes = some c → encodeCommand c = some bytes)
    ∧ decodeCommand [] = none
    ∧ ∀ (code : Byte) (ps : List Byte),
        (decodeCommand (code :: ps)).isSome = true ↔ paramCount code = some ps.length

/-! ## The whole machine -/

/-- R3, R101, R109, R155, R156: a CONFIRMED or ISOLATED record keeps its evidence and its identity through
every row but its own acknowledgement or retirement and the resets, and it keeps withdrawing its zone's
permissive and zone 0's. -/
def Obligations.LatchedRecordsKeepTheirEvidence : Prop :=
  ∀ (s t : State) (c : Instr) (i : SecIx), exec c s = .next t → (s.device.sections.get i).latched →
    ¬ resetRow c →
    (∀ b : Byte, b.toNat = i.val → c ≠ .acknowledgeSection b ∧ c ≠ .retireSection b) →
    let r := s.device.sections.get i
    let u := t.device.sections.get i
    u.latched ∧ (r.state = .isolated → u.state = .isolated)
      ∧ u = { r with state := u.state, settle := u.settle, mark := u.mark, escalated := u.escalated }
      ∧ t.device.permit r.zone = false ∧ t.device.permit 0 = false

/-- R54, R55, R57, R63, R65, R68 to R75, R115, R118, R168 to R177: every step keeps the laws of the Profile
Table, of the Epoch Clock, of the Link Receiver and of the Host Port, each by itself. -/
def Obligations.EveryStepKeepsProfileClockLinkAndPortLaws : Prop :=
  ∀ s t : State, step s = .next t →
    (s.device.profilesLawful → t.device.profilesLawful)
      ∧ (s.device.clock.lawful → t.device.clock.lawful)
      ∧ (s.device.link.lawful → t.device.link.lawful)
      ∧ (s.device.port.lawful → t.device.port.lawful)

/-- R9, R10, R33, R39, R48, R49, R62, R77, R80, R91: every step keeps the laws of the Node Table, of the
topology, of the Stranger Slots and of the assembly slots. The laws of the cause lists are a premise: a list
that named a VACANT record would bring it to life. -/
def Obligations.EveryStepKeepsNodeTopologyAndSlotLaws : Prop :=
  ∀ s t : State, step s = .next t → s.device.tripsLawful →
    s.device.nodesLawful → s.device.topologyLawful → s.device.strangersLawful → s.device.slotsLawful →
    t.device.nodesLawful ∧ t.device.topologyLawful ∧ t.device.strangersLawful ∧ t.device.slotsLawful

/-- R2, R3, R6, R102, R109, R137, R139, R140, R143: every step keeps the laws of the section records, of the
trip sequencers and of the cause lists. -/
def Obligations.EveryStepKeepsSectionAndTripLaws : Prop :=
  ∀ s t : State, step s = .next t → s.device.profilesLawful → s.device.tripsLawful → t.device.tripsLawful

/-- R66: in amnesia nothing is watched, from every state in which the trip laws hold. -/
def Obligations.EveryStepKeepsAmnesiaLaw : Prop :=
  ∀ s t : State, step s = .next t → s.device.tripsLawful → s.device.amnesiaLawful → t.device.amnesiaLawful

/-- Every law holds right after power-on reset. The pin levels are the model's choice: log entry 10. -/
def Obligations.EveryLawHoldsAtReset : Prop :=
  let p := State.reset.device
  p.profilesLawful ∧ p.clock.lawful ∧ p.link.lawful ∧ p.port.lawful ∧ p.nodesLawful ∧ p.topologyLawful
    ∧ p.strangersLawful ∧ p.slotsLawful ∧ p.tripsLawful ∧ p.amnesiaLawful
end

