-- ==== Sys2Proof/Laws/Table.lean ====
section
/-! SUPPORT. Reading after writing, for tables, per-phase values and phase sets. -/

namespace Sys2Proof

/-! ## Per-phase values -/

@[simp] theorem PerPhase.get_ofFn {α : Type} (f : Phase → α) (ph : Phase) : (PerPhase.ofFn f).get ph = f ph := by
  cases ph <;> rfl

@[simp] theorem PerPhase.get_all {α : Type} (v : α) (ph : Phase) : (PerPhase.all v).get ph = v := by
  cases ph <;> rfl

/-- Two per-phase values are equal when they agree on every phase. -/
theorem PerPhase.eq_of_get {α : Type} {x y : PerPhase α} (h : ∀ ph, x.get ph = y.get ph) : x = y := by
  obtain ⟨_, _, _⟩ := x
  obtain ⟨_, _, _⟩ := y
  have ha := h .a
  have hb := h .b
  have hc := h .c
  simp only [PerPhase.get] at ha hb hc
  rw [ha, hb, hc]

@[simp] theorem mem_allPhases (ph : Phase) : ph ∈ allPhases := by
  cases ph <;> simp [allPhases]

@[simp] theorem PhaseSet.get_none (ph : Phase) : PerPhase.get PhaseSet.none ph = false := by
  cases ph <;> rfl

/-- Containment, phase by phase. -/
theorem PhaseSet.contains_iff (s t : PhaseSet) :
    PhaseSet.contains s t = true ↔ ∀ ph, t.get ph = true → s.get ph = true := by
  simp [PhaseSet.contains, List.all_eq_true, imp_iff_not_or]

namespace Table

variable {α : Type} {n : Nat}

/-- The record just written is the one read. -/
@[simp] theorem get_set_self (t : Table α n) (i : Fin n) (v : α) : (t.set i v).get i = v := by
  simp [Table.get, Table.set]

/-- Writing one record leaves every other one. -/
theorem get_set_of_ne (t : Table α n) {i j : Fin n} (v : α) (h : j ≠ i) : (t.set i v).get j = t.get j := by
  have h' : i.val ≠ j.val := fun e => h (Fin.ext e.symm)
  simp [Table.get, Table.set, List.getElem_set_ne h']

/-- What a record reads after a write to some record. -/
theorem get_set (t : Table α n) (i j : Fin n) (v : α) :
    (t.set i v).get j = if j = i then v else t.get j := by
  split
  · rename_i h; rw [h]; exact get_set_self t i v
  · rename_i h; exact get_set_of_ne t v h

@[simp] theorem get_replicate (v : α) (i : Fin n) : (Table.replicate n v).get i = v := by
  simp [Table.get, Table.replicate]

@[simp] theorem get_mapIdx (f : Fin n → α → α) (t : Table α n) (i : Fin n) :
    (t.mapIdx f).get i = f i (t.get i) := by
  simp [Table.get, Table.mapIdx]

/-- Some record passes a test. -/
theorem any_iff (f : Fin n → α → Bool) (t : Table α n) :
    t.any f = true ↔ ∃ i, f i (t.get i) = true := by
  simp [Table.any, List.any_eq_true, List.mem_finRange]

/-- No record passes a test. -/
theorem any_eq_false_iff (f : Fin n → α → Bool) (t : Table α n) :
    t.any f = false ↔ ∀ i, f i (t.get i) = false := by
  simp [Table.any, List.any_eq_false, List.mem_finRange]

/-- Two tables are equal when they agree at every index. -/
theorem eq_of_get {t u : Table α n} (h : ∀ i, t.get i = u.get i) : t = u := by
  obtain ⟨a, ha⟩ := t
  obtain ⟨b, hb⟩ := u
  have e : a = b := by
    apply List.ext_getElem (by rw [ha, hb])
    intro k hk _
    exact h ⟨k, by rw [← ha]; exact hk⟩
  subst e
  rfl

/-- Writing back the record that stands changes nothing. -/
@[simp] theorem set_get_self (t : Table α n) (i : Fin n) : t.set i (t.get i) = t := by
  apply eq_of_get
  intro j
  rw [get_set]
  split
  · rename_i h; rw [h]
  · rfl

/-- Of two writes to one record the later stands. -/
@[simp] theorem set_set (t : Table α n) (i : Fin n) (v w : α) : (t.set i v).set i w = t.set i w := by
  apply eq_of_get
  intro j
  simp only [get_set]
  split <;> rfl

end Table

end Sys2Proof
end

