-- ==== Sys2Proof/Laws/State.lean ====
section
/-! SUPPORT. One lemma for each field of the part and each update of it; what a step can be. -/

namespace Sys2Proof.Machine

/-! ## Writing one record -/

@[simp] theorem Device.setSection_link (p : Device) (i : SecIx) (r : SectionRec) : (p.setSection i r).link = p.link := rfl
@[simp] theorem Device.setSection_clock (p : Device) (i : SecIx) (r : SectionRec) : (p.setSection i r).clock = p.clock := rfl
@[simp] theorem Device.setSection_slots (p : Device) (i : SecIx) (r : SectionRec) : (p.setSection i r).slots = p.slots := rfl
@[simp] theorem Device.setSection_held (p : Device) (i : SecIx) (r : SectionRec) : (p.setSection i r).held = p.held := rfl
@[simp] theorem Device.setSection_nodes (p : Device) (i : SecIx) (r : SectionRec) : (p.setSection i r).nodes = p.nodes := rfl
@[simp] theorem Device.setSection_strangers (p : Device) (i : SecIx) (r : SectionRec) : (p.setSection i r).strangers = p.strangers := rfl
@[simp] theorem Device.setSection_overwrites (p : Device) (i : SecIx) (r : SectionRec) : (p.setSection i r).overwrites = p.overwrites := rfl
@[simp] theorem Device.setSection_sections (p : Device) (i : SecIx) (r : SectionRec) : (p.setSection i r).sections = p.sections.set i r := rfl
@[simp] theorem Device.setSection_profiles (p : Device) (i : SecIx) (r : SectionRec) : (p.setSection i r).profiles = p.profiles := rfl
@[simp] theorem Device.setSection_zones (p : Device) (i : SecIx) (r : SectionRec) : (p.setSection i r).zones = p.zones := rfl
@[simp] theorem Device.setSection_alerts (p : Device) (i : SecIx) (r : SectionRec) : (p.setSection i r).alerts = p.alerts := rfl
@[simp] theorem Device.setSection_port (p : Device) (i : SecIx) (r : SectionRec) : (p.setSection i r).port = p.port := rfl
@[simp] theorem Device.setSection_now (p : Device) (i : SecIx) (r : SectionRec) : (p.setSection i r).now = p.now := rfl
@[simp] theorem Device.setSection_choices (p : Device) (i : SecIx) (r : SectionRec) : (p.setSection i r).choices = p.choices := rfl
@[simp] theorem Device.setNode_link (p : Device) (n : NodeIx) (r : Node) : (p.setNode n r).link = p.link := rfl
@[simp] theorem Device.setNode_clock (p : Device) (n : NodeIx) (r : Node) : (p.setNode n r).clock = p.clock := rfl
@[simp] theorem Device.setNode_slots (p : Device) (n : NodeIx) (r : Node) : (p.setNode n r).slots = p.slots := rfl
@[simp] theorem Device.setNode_held (p : Device) (n : NodeIx) (r : Node) : (p.setNode n r).held = p.held := rfl
@[simp] theorem Device.setNode_nodes (p : Device) (n : NodeIx) (r : Node) : (p.setNode n r).nodes = p.nodes.set n r := rfl
@[simp] theorem Device.setNode_strangers (p : Device) (n : NodeIx) (r : Node) : (p.setNode n r).strangers = p.strangers := rfl
@[simp] theorem Device.setNode_overwrites (p : Device) (n : NodeIx) (r : Node) : (p.setNode n r).overwrites = p.overwrites := rfl
@[simp] theorem Device.setNode_sections (p : Device) (n : NodeIx) (r : Node) : (p.setNode n r).sections = p.sections := rfl
@[simp] theorem Device.setNode_profiles (p : Device) (n : NodeIx) (r : Node) : (p.setNode n r).profiles = p.profiles := rfl
@[simp] theorem Device.setNode_zones (p : Device) (n : NodeIx) (r : Node) : (p.setNode n r).zones = p.zones := rfl
@[simp] theorem Device.setNode_alerts (p : Device) (n : NodeIx) (r : Node) : (p.setNode n r).alerts = p.alerts := rfl
@[simp] theorem Device.setNode_port (p : Device) (n : NodeIx) (r : Node) : (p.setNode n r).port = p.port := rfl
@[simp] theorem Device.setNode_now (p : Device) (n : NodeIx) (r : Node) : (p.setNode n r).now = p.now := rfl
@[simp] theorem Device.setNode_choices (p : Device) (n : NodeIx) (r : Node) : (p.setNode n r).choices = p.choices := rfl
@[simp] theorem Device.setZone_link (p : Device) (z : ZoneIx) (y : Zone) : (p.setZone z y).link = p.link := rfl
@[simp] theorem Device.setZone_clock (p : Device) (z : ZoneIx) (y : Zone) : (p.setZone z y).clock = p.clock := rfl
@[simp] theorem Device.setZone_slots (p : Device) (z : ZoneIx) (y : Zone) : (p.setZone z y).slots = p.slots := rfl
@[simp] theorem Device.setZone_held (p : Device) (z : ZoneIx) (y : Zone) : (p.setZone z y).held = p.held := rfl
@[simp] theorem Device.setZone_nodes (p : Device) (z : ZoneIx) (y : Zone) : (p.setZone z y).nodes = p.nodes := rfl
@[simp] theorem Device.setZone_strangers (p : Device) (z : ZoneIx) (y : Zone) : (p.setZone z y).strangers = p.strangers := rfl
@[simp] theorem Device.setZone_overwrites (p : Device) (z : ZoneIx) (y : Zone) : (p.setZone z y).overwrites = p.overwrites := rfl
@[simp] theorem Device.setZone_sections (p : Device) (z : ZoneIx) (y : Zone) : (p.setZone z y).sections = p.sections := rfl
@[simp] theorem Device.setZone_profiles (p : Device) (z : ZoneIx) (y : Zone) : (p.setZone z y).profiles = p.profiles := rfl
@[simp] theorem Device.setZone_zones (p : Device) (z : ZoneIx) (y : Zone) : (p.setZone z y).zones = p.zones.set z y := rfl
@[simp] theorem Device.setZone_alerts (p : Device) (z : ZoneIx) (y : Zone) : (p.setZone z y).alerts = p.alerts := rfl
@[simp] theorem Device.setZone_port (p : Device) (z : ZoneIx) (y : Zone) : (p.setZone z y).port = p.port := rfl
@[simp] theorem Device.setZone_now (p : Device) (z : ZoneIx) (y : Zone) : (p.setZone z y).now = p.now := rfl
@[simp] theorem Device.setZone_choices (p : Device) (z : ZoneIx) (y : Zone) : (p.setZone z y).choices = p.choices := rfl
@[simp] theorem Device.mapSections_link (p : Device) (f : SecIx → SectionRec → SectionRec) : (p.mapSections f).link = p.link := rfl
@[simp] theorem Device.mapSections_clock (p : Device) (f : SecIx → SectionRec → SectionRec) : (p.mapSections f).clock = p.clock := rfl
@[simp] theorem Device.mapSections_slots (p : Device) (f : SecIx → SectionRec → SectionRec) : (p.mapSections f).slots = p.slots := rfl
@[simp] theorem Device.mapSections_held (p : Device) (f : SecIx → SectionRec → SectionRec) : (p.mapSections f).held = p.held := rfl
@[simp] theorem Device.mapSections_nodes (p : Device) (f : SecIx → SectionRec → SectionRec) : (p.mapSections f).nodes = p.nodes := rfl
@[simp] theorem Device.mapSections_strangers (p : Device) (f : SecIx → SectionRec → SectionRec) : (p.mapSections f).strangers = p.strangers := rfl
@[simp] theorem Device.mapSections_overwrites (p : Device) (f : SecIx → SectionRec → SectionRec) : (p.mapSections f).overwrites = p.overwrites := rfl
@[simp] theorem Device.mapSections_sections (p : Device) (f : SecIx → SectionRec → SectionRec) : (p.mapSections f).sections = p.sections.mapIdx f := rfl
@[simp] theorem Device.mapSections_profiles (p : Device) (f : SecIx → SectionRec → SectionRec) : (p.mapSections f).profiles = p.profiles := rfl
@[simp] theorem Device.mapSections_zones (p : Device) (f : SecIx → SectionRec → SectionRec) : (p.mapSections f).zones = p.zones := rfl
@[simp] theorem Device.mapSections_alerts (p : Device) (f : SecIx → SectionRec → SectionRec) : (p.mapSections f).alerts = p.alerts := rfl
@[simp] theorem Device.mapSections_port (p : Device) (f : SecIx → SectionRec → SectionRec) : (p.mapSections f).port = p.port := rfl
@[simp] theorem Device.mapSections_now (p : Device) (f : SecIx → SectionRec → SectionRec) : (p.mapSections f).now = p.now := rfl
@[simp] theorem Device.mapSections_choices (p : Device) (f : SecIx → SectionRec → SectionRec) : (p.mapSections f).choices = p.choices := rfl
@[simp] theorem Device.mapListed_link (p : Device) (l : List SecIx) (f : SectionRec → SectionRec) : (p.mapListed l f).link = p.link := rfl
@[simp] theorem Device.mapListed_clock (p : Device) (l : List SecIx) (f : SectionRec → SectionRec) : (p.mapListed l f).clock = p.clock := rfl
@[simp] theorem Device.mapListed_slots (p : Device) (l : List SecIx) (f : SectionRec → SectionRec) : (p.mapListed l f).slots = p.slots := rfl
@[simp] theorem Device.mapListed_held (p : Device) (l : List SecIx) (f : SectionRec → SectionRec) : (p.mapListed l f).held = p.held := rfl
@[simp] theorem Device.mapListed_nodes (p : Device) (l : List SecIx) (f : SectionRec → SectionRec) : (p.mapListed l f).nodes = p.nodes := rfl
@[simp] theorem Device.mapListed_strangers (p : Device) (l : List SecIx) (f : SectionRec → SectionRec) : (p.mapListed l f).strangers = p.strangers := rfl
@[simp] theorem Device.mapListed_overwrites (p : Device) (l : List SecIx) (f : SectionRec → SectionRec) : (p.mapListed l f).overwrites = p.overwrites := rfl
@[simp] theorem Device.mapListed_sections (p : Device) (l : List SecIx) (f : SectionRec → SectionRec) : (p.mapListed l f).sections = p.sections.mapIdx fun i r => if i ∈ l then f r else r := rfl
@[simp] theorem Device.mapListed_profiles (p : Device) (l : List SecIx) (f : SectionRec → SectionRec) : (p.mapListed l f).profiles = p.profiles := rfl
@[simp] theorem Device.mapListed_zones (p : Device) (l : List SecIx) (f : SectionRec → SectionRec) : (p.mapListed l f).zones = p.zones := rfl
@[simp] theorem Device.mapListed_alerts (p : Device) (l : List SecIx) (f : SectionRec → SectionRec) : (p.mapListed l f).alerts = p.alerts := rfl
@[simp] theorem Device.mapListed_port (p : Device) (l : List SecIx) (f : SectionRec → SectionRec) : (p.mapListed l f).port = p.port := rfl
@[simp] theorem Device.mapListed_now (p : Device) (l : List SecIx) (f : SectionRec → SectionRec) : (p.mapListed l f).now = p.now := rfl
@[simp] theorem Device.mapListed_choices (p : Device) (l : List SecIx) (f : SectionRec → SectionRec) : (p.mapListed l f).choices = p.choices := rfl
@[simp] theorem Device.latchOutcome_link (p : Device) (z : ZoneIx) (o : OutcomeRec) : (p.latchOutcome z o).link = p.link := rfl
@[simp] theorem Device.latchOutcome_clock (p : Device) (z : ZoneIx) (o : OutcomeRec) : (p.latchOutcome z o).clock = p.clock := rfl
@[simp] theorem Device.latchOutcome_slots (p : Device) (z : ZoneIx) (o : OutcomeRec) : (p.latchOutcome z o).slots = p.slots := rfl
@[simp] theorem Device.latchOutcome_held (p : Device) (z : ZoneIx) (o : OutcomeRec) : (p.latchOutcome z o).held = p.held := rfl
@[simp] theorem Device.latchOutcome_nodes (p : Device) (z : ZoneIx) (o : OutcomeRec) : (p.latchOutcome z o).nodes = p.nodes := rfl
@[simp] theorem Device.latchOutcome_strangers (p : Device) (z : ZoneIx) (o : OutcomeRec) : (p.latchOutcome z o).strangers = p.strangers := rfl
@[simp] theorem Device.latchOutcome_overwrites (p : Device) (z : ZoneIx) (o : OutcomeRec) : (p.latchOutcome z o).overwrites = p.overwrites := rfl
@[simp] theorem Device.latchOutcome_sections (p : Device) (z : ZoneIx) (o : OutcomeRec) : (p.latchOutcome z o).sections = p.sections := rfl
@[simp] theorem Device.latchOutcome_profiles (p : Device) (z : ZoneIx) (o : OutcomeRec) : (p.latchOutcome z o).profiles = p.profiles := rfl
@[simp] theorem Device.latchOutcome_zones (p : Device) (z : ZoneIx) (o : OutcomeRec) : (p.latchOutcome z o).zones = 
      p.zones.set z ({ p.zones.get z with
        latch := some { o with overwritten := (p.zones.get z).latch.isSome } }) := rfl
@[simp] theorem Device.latchOutcome_alerts (p : Device) (z : ZoneIx) (o : OutcomeRec) : (p.latchOutcome z o).alerts = p.alerts := rfl
@[simp] theorem Device.latchOutcome_port (p : Device) (z : ZoneIx) (o : OutcomeRec) : (p.latchOutcome z o).port = p.port := rfl
@[simp] theorem Device.latchOutcome_now (p : Device) (z : ZoneIx) (o : OutcomeRec) : (p.latchOutcome z o).now = p.now := rfl
@[simp] theorem Device.latchOutcome_choices (p : Device) (z : ZoneIx) (o : OutcomeRec) : (p.latchOutcome z o).choices = p.choices := rfl

/-! ## Time and the work in hand -/

/-- No time passes to a moment that is not later than the present. -/
theorem Device.passTo_of_le {p : Device} {t : Moment} (h : t ≤ p.now) : p.passTo t = p := by
  unfold Device.passTo
  exact if_neg (Nat.not_lt.mpr h)

/-- The work in hand is done before time passes to a later moment. -/
theorem Device.passTo_of_lt {p : Device} {t : Moment} (h : p.now < t) :
    p.passTo t = { p.finishWork with now := t } := by
  unfold Device.passTo
  exact if_pos h

@[simp] theorem HeldWork.empty_inHand : HeldWork.empty.inHand = false := rfl

/-- With no work in hand none is done. -/
theorem Device.finishWork_of_idle {p : Device} (h : p.held.inHand = false) : p.finishWork = p := by
  have hc : p.held.closes = [] := by simpa [HeldWork.inHand] using h
  unfold Device.finishWork
  rw [hc]

/-! ## Alert flags -/

@[simp] theorem Device.setSectionFlag_link (p : Device) : (p.setSectionFlag).link = p.link := rfl
@[simp] theorem Device.setSectionFlag_clock (p : Device) : (p.setSectionFlag).clock = p.clock := rfl
@[simp] theorem Device.setSectionFlag_slots (p : Device) : (p.setSectionFlag).slots = p.slots := rfl
@[simp] theorem Device.setSectionFlag_held (p : Device) : (p.setSectionFlag).held = p.held := rfl
@[simp] theorem Device.setSectionFlag_nodes (p : Device) : (p.setSectionFlag).nodes = p.nodes := rfl
@[simp] theorem Device.setSectionFlag_strangers (p : Device) : (p.setSectionFlag).strangers = p.strangers := rfl
@[simp] theorem Device.setSectionFlag_overwrites (p : Device) : (p.setSectionFlag).overwrites = p.overwrites := rfl
@[simp] theorem Device.setSectionFlag_sections (p : Device) : (p.setSectionFlag).sections = p.sections := rfl
@[simp] theorem Device.setSectionFlag_profiles (p : Device) : (p.setSectionFlag).profiles = p.profiles := rfl
@[simp] theorem Device.setSectionFlag_zones (p : Device) : (p.setSectionFlag).zones = p.zones := rfl
@[simp] theorem Device.setSectionFlag_alerts (p : Device) : (p.setSectionFlag).alerts = 
      { p.alerts with flags := { p.alerts.flags with sect := true } } := rfl
@[simp] theorem Device.setSectionFlag_port (p : Device) : (p.setSectionFlag).port = p.port := rfl
@[simp] theorem Device.setSectionFlag_now (p : Device) : (p.setSectionFlag).now = p.now := rfl
@[simp] theorem Device.setSectionFlag_choices (p : Device) : (p.setSectionFlag).choices = p.choices := rfl
@[simp] theorem Device.setNodeFlag_link (p : Device) : (p.setNodeFlag).link = p.link := rfl
@[simp] theorem Device.setNodeFlag_clock (p : Device) : (p.setNodeFlag).clock = p.clock := rfl
@[simp] theorem Device.setNodeFlag_slots (p : Device) : (p.setNodeFlag).slots = p.slots := rfl
@[simp] theorem Device.setNodeFlag_held (p : Device) : (p.setNodeFlag).held = p.held := rfl
@[simp] theorem Device.setNodeFlag_nodes (p : Device) : (p.setNodeFlag).nodes = p.nodes := rfl
@[simp] theorem Device.setNodeFlag_strangers (p : Device) : (p.setNodeFlag).strangers = p.strangers := rfl
@[simp] theorem Device.setNodeFlag_overwrites (p : Device) : (p.setNodeFlag).overwrites = p.overwrites := rfl
@[simp] theorem Device.setNodeFlag_sections (p : Device) : (p.setNodeFlag).sections = p.sections := rfl
@[simp] theorem Device.setNodeFlag_profiles (p : Device) : (p.setNodeFlag).profiles = p.profiles := rfl
@[simp] theorem Device.setNodeFlag_zones (p : Device) : (p.setNodeFlag).zones = p.zones := rfl
@[simp] theorem Device.setNodeFlag_alerts (p : Device) : (p.setNodeFlag).alerts = 
      { p.alerts with flags := { p.alerts.flags with node := true } } := rfl
@[simp] theorem Device.setNodeFlag_port (p : Device) : (p.setNodeFlag).port = p.port := rfl
@[simp] theorem Device.setNodeFlag_now (p : Device) : (p.setNodeFlag).now = p.now := rfl
@[simp] theorem Device.setNodeFlag_choices (p : Device) : (p.setNodeFlag).choices = p.choices := rfl
@[simp] theorem Device.setStrangerFlag_link (p : Device) : (p.setStrangerFlag).link = p.link := rfl
@[simp] theorem Device.setStrangerFlag_clock (p : Device) : (p.setStrangerFlag).clock = p.clock := rfl
@[simp] theorem Device.setStrangerFlag_slots (p : Device) : (p.setStrangerFlag).slots = p.slots := rfl
@[simp] theorem Device.setStrangerFlag_held (p : Device) : (p.setStrangerFlag).held = p.held := rfl
@[simp] theorem Device.setStrangerFlag_nodes (p : Device) : (p.setStrangerFlag).nodes = p.nodes := rfl
@[simp] theorem Device.setStrangerFlag_strangers (p : Device) : (p.setStrangerFlag).strangers = p.strangers := rfl
@[simp] theorem Device.setStrangerFlag_overwrites (p : Device) : (p.setStrangerFlag).overwrites = p.overwrites := rfl
@[simp] theorem Device.setStrangerFlag_sections (p : Device) : (p.setStrangerFlag).sections = p.sections := rfl
@[simp] theorem Device.setStrangerFlag_profiles (p : Device) : (p.setStrangerFlag).profiles = p.profiles := rfl
@[simp] theorem Device.setStrangerFlag_zones (p : Device) : (p.setStrangerFlag).zones = p.zones := rfl
@[simp] theorem Device.setStrangerFlag_alerts (p : Device) : (p.setStrangerFlag).alerts = 
      { p.alerts with flags := { p.alerts.flags with stranger := true } } := rfl
@[simp] theorem Device.setStrangerFlag_port (p : Device) : (p.setStrangerFlag).port = p.port := rfl
@[simp] theorem Device.setStrangerFlag_now (p : Device) : (p.setStrangerFlag).now = p.now := rfl
@[simp] theorem Device.setStrangerFlag_choices (p : Device) : (p.setStrangerFlag).choices = p.choices := rfl
@[simp] theorem Device.setLinkFlag_link (p : Device) : (p.setLinkFlag).link = p.link := rfl
@[simp] theorem Device.setLinkFlag_clock (p : Device) : (p.setLinkFlag).clock = p.clock := rfl
@[simp] theorem Device.setLinkFlag_slots (p : Device) : (p.setLinkFlag).slots = p.slots := rfl
@[simp] theorem Device.setLinkFlag_held (p : Device) : (p.setLinkFlag).held = p.held := rfl
@[simp] theorem Device.setLinkFlag_nodes (p : Device) : (p.setLinkFlag).nodes = p.nodes := rfl
@[simp] theorem Device.setLinkFlag_strangers (p : Device) : (p.setLinkFlag).strangers = p.strangers := rfl
@[simp] theorem Device.setLinkFlag_overwrites (p : Device) : (p.setLinkFlag).overwrites = p.overwrites := rfl
@[simp] theorem Device.setLinkFlag_sections (p : Device) : (p.setLinkFlag).sections = p.sections := rfl
@[simp] theorem Device.setLinkFlag_profiles (p : Device) : (p.setLinkFlag).profiles = p.profiles := rfl
@[simp] theorem Device.setLinkFlag_zones (p : Device) : (p.setLinkFlag).zones = p.zones := rfl
@[simp] theorem Device.setLinkFlag_alerts (p : Device) : (p.setLinkFlag).alerts = 
      { p.alerts with flags := { p.alerts.flags with link := true } } := rfl
@[simp] theorem Device.setLinkFlag_port (p : Device) : (p.setLinkFlag).port = p.port := rfl
@[simp] theorem Device.setLinkFlag_now (p : Device) : (p.setLinkFlag).now = p.now := rfl
@[simp] theorem Device.setLinkFlag_choices (p : Device) : (p.setLinkFlag).choices = p.choices := rfl
@[simp] theorem Device.setSyncFlag_link (p : Device) : (p.setSyncFlag).link = p.link := rfl
@[simp] theorem Device.setSyncFlag_clock (p : Device) : (p.setSyncFlag).clock = p.clock := rfl
@[simp] theorem Device.setSyncFlag_slots (p : Device) : (p.setSyncFlag).slots = p.slots := rfl
@[simp] theorem Device.setSyncFlag_held (p : Device) : (p.setSyncFlag).held = p.held := rfl
@[simp] theorem Device.setSyncFlag_nodes (p : Device) : (p.setSyncFlag).nodes = p.nodes := rfl
@[simp] theorem Device.setSyncFlag_strangers (p : Device) : (p.setSyncFlag).strangers = p.strangers := rfl
@[simp] theorem Device.setSyncFlag_overwrites (p : Device) : (p.setSyncFlag).overwrites = p.overwrites := rfl
@[simp] theorem Device.setSyncFlag_sections (p : Device) : (p.setSyncFlag).sections = p.sections := rfl
@[simp] theorem Device.setSyncFlag_profiles (p : Device) : (p.setSyncFlag).profiles = p.profiles := rfl
@[simp] theorem Device.setSyncFlag_zones (p : Device) : (p.setSyncFlag).zones = p.zones := rfl
@[simp] theorem Device.setSyncFlag_alerts (p : Device) : (p.setSyncFlag).alerts = 
      { p.alerts with flags := { p.alerts.flags with sync := true } } := rfl
@[simp] theorem Device.setSyncFlag_port (p : Device) : (p.setSyncFlag).port = p.port := rfl
@[simp] theorem Device.setSyncFlag_now (p : Device) : (p.setSyncFlag).now = p.now := rfl
@[simp] theorem Device.setSyncFlag_choices (p : Device) : (p.setSyncFlag).choices = p.choices := rfl

/-! ## One block changed -/

@[simp] theorem Device.withCounters_link (p : Device) (f : LinkCounters → LinkCounters) : (p.withCounters f).link = 
      { p.link with counters := f p.link.counters } := rfl
@[simp] theorem Device.withCounters_clock (p : Device) (f : LinkCounters → LinkCounters) : (p.withCounters f).clock = p.clock := rfl
@[simp] theorem Device.withCounters_slots (p : Device) (f : LinkCounters → LinkCounters) : (p.withCounters f).slots = p.slots := rfl
@[simp] theorem Device.withCounters_held (p : Device) (f : LinkCounters → LinkCounters) : (p.withCounters f).held = p.held := rfl
@[simp] theorem Device.withCounters_nodes (p : Device) (f : LinkCounters → LinkCounters) : (p.withCounters f).nodes = p.nodes := rfl
@[simp] theorem Device.withCounters_strangers (p : Device) (f : LinkCounters → LinkCounters) : (p.withCounters f).strangers = p.strangers := rfl
@[simp] theorem Device.withCounters_overwrites (p : Device) (f : LinkCounters → LinkCounters) : (p.withCounters f).overwrites = p.overwrites := rfl
@[simp] theorem Device.withCounters_sections (p : Device) (f : LinkCounters → LinkCounters) : (p.withCounters f).sections = p.sections := rfl
@[simp] theorem Device.withCounters_profiles (p : Device) (f : LinkCounters → LinkCounters) : (p.withCounters f).profiles = p.profiles := rfl
@[simp] theorem Device.withCounters_zones (p : Device) (f : LinkCounters → LinkCounters) : (p.withCounters f).zones = p.zones := rfl
@[simp] theorem Device.withCounters_alerts (p : Device) (f : LinkCounters → LinkCounters) : (p.withCounters f).alerts = p.alerts := rfl
@[simp] theorem Device.withCounters_port (p : Device) (f : LinkCounters → LinkCounters) : (p.withCounters f).port = p.port := rfl
@[simp] theorem Device.withCounters_now (p : Device) (f : LinkCounters → LinkCounters) : (p.withCounters f).now = p.now := rfl
@[simp] theorem Device.withCounters_choices (p : Device) (f : LinkCounters → LinkCounters) : (p.withCounters f).choices = p.choices := rfl
@[simp] theorem Device.withClock_link (p : Device) (f : EpochClock → EpochClock) : (p.withClock f).link = p.link := rfl
@[simp] theorem Device.withClock_clock (p : Device) (f : EpochClock → EpochClock) : (p.withClock f).clock = f p.clock := rfl
@[simp] theorem Device.withClock_slots (p : Device) (f : EpochClock → EpochClock) : (p.withClock f).slots = p.slots := rfl
@[simp] theorem Device.withClock_held (p : Device) (f : EpochClock → EpochClock) : (p.withClock f).held = p.held := rfl
@[simp] theorem Device.withClock_nodes (p : Device) (f : EpochClock → EpochClock) : (p.withClock f).nodes = p.nodes := rfl
@[simp] theorem Device.withClock_strangers (p : Device) (f : EpochClock → EpochClock) : (p.withClock f).strangers = p.strangers := rfl
@[simp] theorem Device.withClock_overwrites (p : Device) (f : EpochClock → EpochClock) : (p.withClock f).overwrites = p.overwrites := rfl
@[simp] theorem Device.withClock_sections (p : Device) (f : EpochClock → EpochClock) : (p.withClock f).sections = p.sections := rfl
@[simp] theorem Device.withClock_profiles (p : Device) (f : EpochClock → EpochClock) : (p.withClock f).profiles = p.profiles := rfl
@[simp] theorem Device.withClock_zones (p : Device) (f : EpochClock → EpochClock) : (p.withClock f).zones = p.zones := rfl
@[simp] theorem Device.withClock_alerts (p : Device) (f : EpochClock → EpochClock) : (p.withClock f).alerts = p.alerts := rfl
@[simp] theorem Device.withClock_port (p : Device) (f : EpochClock → EpochClock) : (p.withClock f).port = p.port := rfl
@[simp] theorem Device.withClock_now (p : Device) (f : EpochClock → EpochClock) : (p.withClock f).now = p.now := rfl
@[simp] theorem Device.withClock_choices (p : Device) (f : EpochClock → EpochClock) : (p.withClock f).choices = p.choices := rfl
@[simp] theorem Device.withLink_link (p : Device) (f : LinkReceiver → LinkReceiver) : (p.withLink f).link = f p.link := rfl
@[simp] theorem Device.withLink_clock (p : Device) (f : LinkReceiver → LinkReceiver) : (p.withLink f).clock = p.clock := rfl
@[simp] theorem Device.withLink_slots (p : Device) (f : LinkReceiver → LinkReceiver) : (p.withLink f).slots = p.slots := rfl
@[simp] theorem Device.withLink_held (p : Device) (f : LinkReceiver → LinkReceiver) : (p.withLink f).held = p.held := rfl
@[simp] theorem Device.withLink_nodes (p : Device) (f : LinkReceiver → LinkReceiver) : (p.withLink f).nodes = p.nodes := rfl
@[simp] theorem Device.withLink_strangers (p : Device) (f : LinkReceiver → LinkReceiver) : (p.withLink f).strangers = p.strangers := rfl
@[simp] theorem Device.withLink_overwrites (p : Device) (f : LinkReceiver → LinkReceiver) : (p.withLink f).overwrites = p.overwrites := rfl
@[simp] theorem Device.withLink_sections (p : Device) (f : LinkReceiver → LinkReceiver) : (p.withLink f).sections = p.sections := rfl
@[simp] theorem Device.withLink_profiles (p : Device) (f : LinkReceiver → LinkReceiver) : (p.withLink f).profiles = p.profiles := rfl
@[simp] theorem Device.withLink_zones (p : Device) (f : LinkReceiver → LinkReceiver) : (p.withLink f).zones = p.zones := rfl
@[simp] theorem Device.withLink_alerts (p : Device) (f : LinkReceiver → LinkReceiver) : (p.withLink f).alerts = p.alerts := rfl
@[simp] theorem Device.withLink_port (p : Device) (f : LinkReceiver → LinkReceiver) : (p.withLink f).port = p.port := rfl
@[simp] theorem Device.withLink_now (p : Device) (f : LinkReceiver → LinkReceiver) : (p.withLink f).now = p.now := rfl
@[simp] theorem Device.withLink_choices (p : Device) (f : LinkReceiver → LinkReceiver) : (p.withLink f).choices = p.choices := rfl
@[simp] theorem Device.withPort_link (p : Device) (f : HostPort → HostPort) : (p.withPort f).link = p.link := rfl
@[simp] theorem Device.withPort_clock (p : Device) (f : HostPort → HostPort) : (p.withPort f).clock = p.clock := rfl
@[simp] theorem Device.withPort_slots (p : Device) (f : HostPort → HostPort) : (p.withPort f).slots = p.slots := rfl
@[simp] theorem Device.withPort_held (p : Device) (f : HostPort → HostPort) : (p.withPort f).held = p.held := rfl
@[simp] theorem Device.withPort_nodes (p : Device) (f : HostPort → HostPort) : (p.withPort f).nodes = p.nodes := rfl
@[simp] theorem Device.withPort_strangers (p : Device) (f : HostPort → HostPort) : (p.withPort f).strangers = p.strangers := rfl
@[simp] theorem Device.withPort_overwrites (p : Device) (f : HostPort → HostPort) : (p.withPort f).overwrites = p.overwrites := rfl
@[simp] theorem Device.withPort_sections (p : Device) (f : HostPort → HostPort) : (p.withPort f).sections = p.sections := rfl
@[simp] theorem Device.withPort_profiles (p : Device) (f : HostPort → HostPort) : (p.withPort f).profiles = p.profiles := rfl
@[simp] theorem Device.withPort_zones (p : Device) (f : HostPort → HostPort) : (p.withPort f).zones = p.zones := rfl
@[simp] theorem Device.withPort_alerts (p : Device) (f : HostPort → HostPort) : (p.withPort f).alerts = p.alerts := rfl
@[simp] theorem Device.withPort_port (p : Device) (f : HostPort → HostPort) : (p.withPort f).port = f p.port := rfl
@[simp] theorem Device.withPort_now (p : Device) (f : HostPort → HostPort) : (p.withPort f).now = p.now := rfl
@[simp] theorem Device.withPort_choices (p : Device) (f : HostPort → HostPort) : (p.withPort f).choices = p.choices := rfl
@[simp] theorem Device.freeSlots_link (p : Device) : (p.freeSlots).link = p.link := rfl
@[simp] theorem Device.freeSlots_clock (p : Device) : (p.freeSlots).clock = p.clock := rfl
@[simp] theorem Device.freeSlots_slots (p : Device) : (p.freeSlots).slots = [] := rfl
@[simp] theorem Device.freeSlots_held (p : Device) : (p.freeSlots).held = p.held := rfl
@[simp] theorem Device.freeSlots_nodes (p : Device) : (p.freeSlots).nodes = p.nodes := rfl
@[simp] theorem Device.freeSlots_strangers (p : Device) : (p.freeSlots).strangers = p.strangers := rfl
@[simp] theorem Device.freeSlots_overwrites (p : Device) : (p.freeSlots).overwrites = p.overwrites := rfl
@[simp] theorem Device.freeSlots_sections (p : Device) : (p.freeSlots).sections = p.sections := rfl
@[simp] theorem Device.freeSlots_profiles (p : Device) : (p.freeSlots).profiles = p.profiles := rfl
@[simp] theorem Device.freeSlots_zones (p : Device) : (p.freeSlots).zones = p.zones := rfl
@[simp] theorem Device.freeSlots_alerts (p : Device) : (p.freeSlots).alerts = p.alerts := rfl
@[simp] theorem Device.freeSlots_port (p : Device) : (p.freeSlots).port = p.port := rfl
@[simp] theorem Device.freeSlots_now (p : Device) : (p.freeSlots).now = p.now := rfl
@[simp] theorem Device.freeSlots_choices (p : Device) : (p.freeSlots).choices = p.choices := rfl
@[simp] theorem Device.changeRefs_link (p : Device) (f : NodeIx → Nat → Nat) : (p.changeRefs f).link = p.link := rfl
@[simp] theorem Device.changeRefs_clock (p : Device) (f : NodeIx → Nat → Nat) : (p.changeRefs f).clock = p.clock := rfl
@[simp] theorem Device.changeRefs_slots (p : Device) (f : NodeIx → Nat → Nat) : (p.changeRefs f).slots = p.slots := rfl
@[simp] theorem Device.changeRefs_held (p : Device) (f : NodeIx → Nat → Nat) : (p.changeRefs f).held = p.held := rfl
@[simp] theorem Device.changeRefs_nodes (p : Device) (f : NodeIx → Nat → Nat) : (p.changeRefs f).nodes = 
      p.nodes.mapIdx fun n r => { r with refs := f n r.refs } := rfl
@[simp] theorem Device.changeRefs_strangers (p : Device) (f : NodeIx → Nat → Nat) : (p.changeRefs f).strangers = p.strangers := rfl
@[simp] theorem Device.changeRefs_overwrites (p : Device) (f : NodeIx → Nat → Nat) : (p.changeRefs f).overwrites = p.overwrites := rfl
@[simp] theorem Device.changeRefs_sections (p : Device) (f : NodeIx → Nat → Nat) : (p.changeRefs f).sections = p.sections := rfl
@[simp] theorem Device.changeRefs_profiles (p : Device) (f : NodeIx → Nat → Nat) : (p.changeRefs f).profiles = p.profiles := rfl
@[simp] theorem Device.changeRefs_zones (p : Device) (f : NodeIx → Nat → Nat) : (p.changeRefs f).zones = p.zones := rfl
@[simp] theorem Device.changeRefs_alerts (p : Device) (f : NodeIx → Nat → Nat) : (p.changeRefs f).alerts = p.alerts := rfl
@[simp] theorem Device.changeRefs_port (p : Device) (f : NodeIx → Nat → Nat) : (p.changeRefs f).port = p.port := rfl
@[simp] theorem Device.changeRefs_now (p : Device) (f : NodeIx → Nat → Nat) : (p.changeRefs f).now = p.now := rfl
@[simp] theorem Device.changeRefs_choices (p : Device) (f : NodeIx → Nat → Nat) : (p.changeRefs f).choices = p.choices := rfl
@[simp] theorem Device.dropStranger_link (p : Device) (a : Addr) : (p.dropStranger a).link = p.link := rfl
@[simp] theorem Device.dropStranger_clock (p : Device) (a : Addr) : (p.dropStranger a).clock = p.clock := rfl
@[simp] theorem Device.dropStranger_slots (p : Device) (a : Addr) : (p.dropStranger a).slots = p.slots := rfl
@[simp] theorem Device.dropStranger_held (p : Device) (a : Addr) : (p.dropStranger a).held = p.held := rfl
@[simp] theorem Device.dropStranger_nodes (p : Device) (a : Addr) : (p.dropStranger a).nodes = p.nodes := rfl
@[simp] theorem Device.dropStranger_strangers (p : Device) (a : Addr) : (p.dropStranger a).strangers = 
      p.strangers.mapIdx fun _ g => if holdsAddr a g then none else g := rfl
@[simp] theorem Device.dropStranger_overwrites (p : Device) (a : Addr) : (p.dropStranger a).overwrites = p.overwrites := rfl
@[simp] theorem Device.dropStranger_sections (p : Device) (a : Addr) : (p.dropStranger a).sections = p.sections := rfl
@[simp] theorem Device.dropStranger_profiles (p : Device) (a : Addr) : (p.dropStranger a).profiles = p.profiles := rfl
@[simp] theorem Device.dropStranger_zones (p : Device) (a : Addr) : (p.dropStranger a).zones = p.zones := rfl
@[simp] theorem Device.dropStranger_alerts (p : Device) (a : Addr) : (p.dropStranger a).alerts = p.alerts := rfl
@[simp] theorem Device.dropStranger_port (p : Device) (a : Addr) : (p.dropStranger a).port = p.port := rfl
@[simp] theorem Device.dropStranger_now (p : Device) (a : Addr) : (p.dropStranger a).now = p.now := rfl
@[simp] theorem Device.dropStranger_choices (p : Device) (a : Addr) : (p.dropStranger a).choices = p.choices := rfl
@[simp] theorem Device.beginStatus_link (p : Device) : (p.beginStatus).link = p.link := rfl
@[simp] theorem Device.beginStatus_clock (p : Device) : (p.beginStatus).clock = p.clock := rfl
@[simp] theorem Device.beginStatus_slots (p : Device) : (p.beginStatus).slots = p.slots := rfl
@[simp] theorem Device.beginStatus_held (p : Device) : (p.beginStatus).held = p.held := rfl
@[simp] theorem Device.beginStatus_nodes (p : Device) : (p.beginStatus).nodes = p.nodes := rfl
@[simp] theorem Device.beginStatus_strangers (p : Device) : (p.beginStatus).strangers = p.strangers := rfl
@[simp] theorem Device.beginStatus_overwrites (p : Device) : (p.beginStatus).overwrites = p.overwrites := rfl
@[simp] theorem Device.beginStatus_sections (p : Device) : (p.beginStatus).sections = p.sections := rfl
@[simp] theorem Device.beginStatus_profiles (p : Device) : (p.beginStatus).profiles = p.profiles := rfl
@[simp] theorem Device.beginStatus_zones (p : Device) : (p.beginStatus).zones = p.zones := rfl
@[simp] theorem Device.beginStatus_alerts (p : Device) : (p.beginStatus).alerts = p.alerts := rfl
@[simp] theorem Device.beginStatus_port (p : Device) : (p.beginStatus).port = { p.port with miso := some p.statusByte } := rfl
@[simp] theorem Device.beginStatus_now (p : Device) : (p.beginStatus).now = p.now := rfl
@[simp] theorem Device.beginStatus_choices (p : Device) : (p.beginStatus).choices = p.choices := rfl
@[simp] theorem Device.beginByte_link (p : Device) (b : Byte) : (p.beginByte b).link = p.link := rfl
@[simp] theorem Device.beginByte_clock (p : Device) (b : Byte) : (p.beginByte b).clock = p.clock := rfl
@[simp] theorem Device.beginByte_slots (p : Device) (b : Byte) : (p.beginByte b).slots = p.slots := rfl
@[simp] theorem Device.beginByte_held (p : Device) (b : Byte) : (p.beginByte b).held = p.held := rfl
@[simp] theorem Device.beginByte_nodes (p : Device) (b : Byte) : (p.beginByte b).nodes = p.nodes := rfl
@[simp] theorem Device.beginByte_strangers (p : Device) (b : Byte) : (p.beginByte b).strangers = p.strangers := rfl
@[simp] theorem Device.beginByte_overwrites (p : Device) (b : Byte) : (p.beginByte b).overwrites = p.overwrites := rfl
@[simp] theorem Device.beginByte_sections (p : Device) (b : Byte) : (p.beginByte b).sections = p.sections := rfl
@[simp] theorem Device.beginByte_profiles (p : Device) (b : Byte) : (p.beginByte b).profiles = p.profiles := rfl
@[simp] theorem Device.beginByte_zones (p : Device) (b : Byte) : (p.beginByte b).zones = p.zones := rfl
@[simp] theorem Device.beginByte_alerts (p : Device) (b : Byte) : (p.beginByte b).alerts = p.alerts := rfl
@[simp] theorem Device.beginByte_port (p : Device) (b : Byte) : (p.beginByte b).port = { p.port with miso := some b } := rfl
@[simp] theorem Device.beginByte_now (p : Device) (b : Byte) : (p.beginByte b).now = p.now := rfl
@[simp] theorem Device.beginByte_choices (p : Device) (b : Byte) : (p.beginByte b).choices = p.choices := rfl

/-! ## Answers and outcomes -/

/-- A taken command leaves the part as its owning block answered, but for the Host Port; the byte that began
at this very moment may have been fixed after it. -/
theorem Device.taken_eq (a : Answer) :
    Device.taken a =
      if a.1.port.begun = some a.1.now then
        Device.settleStatus { a.1 with port := a.1.port.giveResult a.2 }
      else { a.1 with port := a.1.port.giveResult a.2 } := rfl

@[simp] theorem Device.refuse_fst (p : Device) (c : ResultCode) : (p.refuse c).1 = p := rfl
@[simp] theorem Device.refuse_snd (p : Device) (c : ResultCode) : (p.refuse c).2 = [c.byte] := rfl
@[simp] theorem Device.accept_fst (p : Device) (c : ResultCode) : (p.accept c).1 = p := rfl
@[simp] theorem Device.accept_snd (p : Device) (c : ResultCode) : (p.accept c).2 = [c.byte] := rfl

/-- Running a change of the part answers the next state with the queue kept. -/
theorem State.run_eq (s : State) (f : Device → Device) :
    s.run f = .next { s with device := f s.device } := rfl

/-- Running a taken command answers the state in which its result waits. -/
theorem State.run_taken (s : State) (f : Device → Answer) :
    s.run (fun p => Device.taken (f p)) = .next (s.answered (f s.device).1 (f s.device).2) := rfl

@[simp] theorem State.answered_pending (s : State) (d : Device) (r : List Byte) :
    (s.answered d r).pending = s.pending := rfl
@[simp] theorem State.answered_link (s : State) (d : Device) (r : List Byte) :
    (s.answered d r).device.link = d.link := by
  unfold State.answered
  dsimp only
  split <;> rfl
@[simp] theorem State.answered_clock (s : State) (d : Device) (r : List Byte) :
    (s.answered d r).device.clock = d.clock := by
  unfold State.answered
  dsimp only
  split <;> rfl
@[simp] theorem State.answered_slots (s : State) (d : Device) (r : List Byte) :
    (s.answered d r).device.slots = d.slots := by
  unfold State.answered
  dsimp only
  split <;> rfl
@[simp] theorem State.answered_held (s : State) (d : Device) (r : List Byte) :
    (s.answered d r).device.held = d.held := by
  unfold State.answered
  dsimp only
  split <;> rfl
@[simp] theorem State.answered_nodes (s : State) (d : Device) (r : List Byte) :
    (s.answered d r).device.nodes = d.nodes := by
  unfold State.answered
  dsimp only
  split <;> rfl
@[simp] theorem State.answered_strangers (s : State) (d : Device) (r : List Byte) :
    (s.answered d r).device.strangers = d.strangers := by
  unfold State.answered
  dsimp only
  split <;> rfl
@[simp] theorem State.answered_overwrites (s : State) (d : Device) (r : List Byte) :
    (s.answered d r).device.overwrites = d.overwrites := by
  unfold State.answered
  dsimp only
  split <;> rfl
@[simp] theorem State.answered_sections (s : State) (d : Device) (r : List Byte) :
    (s.answered d r).device.sections = d.sections := by
  unfold State.answered
  dsimp only
  split <;> rfl
@[simp] theorem State.answered_profiles (s : State) (d : Device) (r : List Byte) :
    (s.answered d r).device.profiles = d.profiles := by
  unfold State.answered
  dsimp only
  split <;> rfl
@[simp] theorem State.answered_zones (s : State) (d : Device) (r : List Byte) :
    (s.answered d r).device.zones = d.zones := by
  unfold State.answered
  dsimp only
  split <;> rfl
@[simp] theorem State.answered_alerts (s : State) (d : Device) (r : List Byte) :
    (s.answered d r).device.alerts = d.alerts := by
  unfold State.answered
  dsimp only
  split <;> rfl
@[simp] theorem State.answered_now (s : State) (d : Device) (r : List Byte) :
    (s.answered d r).device.now = d.now := by
  unfold State.answered
  dsimp only
  split <;> rfl

/-- The port of a part that has answered: all but the byte on MISO is as R173 has it. -/
theorem State.answered_port (s : State) (d : Device) (r : List Byte) :
    (s.answered d r).device.port =
      { d.port with state := .result, cmd := [], result := r, readPos := 0, begun := none
                    miso := (s.answered d r).device.port.miso } := by
  unfold State.answered
  dsimp only
  split <;> rfl

@[simp] theorem State.answered_result (s : State) (d : Device) (r : List Byte) :
    (s.answered d r).device.port.result = r := by rw [State.answered_port]

/-- The byte on MISO stands, or, when it began at the moment of the taking, is the status byte after it. -/
theorem State.answered_miso (s : State) (d : Device) (r : List Byte) :
    (s.answered d r).device.port.miso = d.port.miso
      ∨ d.port.begun = some d.now
        ∧ (s.answered d r).device.port.miso = some (s.answered d r).device.statusByte := by
  unfold State.answered
  dsimp only
  split
  · rename_i h
    by_cases k : Config.promptTaking d.choices = true
    · right
      exact ⟨h, by simp only [k, if_true]; rfl⟩
    · left
      simp [k]
  · exact .inl rfl

@[simp] theorem State.withDevice_device (s : State) (d : Device) : (s.withDevice d).device = d := rfl
@[simp] theorem State.withDevice_pending (s : State) (d : Device) : (s.withDevice d).pending = s.pending := rfl

/-- Where a step's next state comes from: the command at the front of the queue, or the part's own work. -/
theorem step_cases {s t : State} (h : step s = .next t) :
    (∃ c q, s.pending = c :: q ∧ exec c { s with pending := q } = .next t)
      ∨ (s.pending = [] ∧ t = s.idle) := by
  unfold step at h
  split at h
  · rename_i hp
    cases h
    exact .inr ⟨hp, rfl⟩
  · rename_i c q hp
    exact .inl ⟨c, q, hp, h⟩

end Sys2Proof.Machine
end

