-- ==== Sys2Proof/Laws/Work.lean ====
section
/-! SUPPORT. What trips, edges and closes leave alone, said once for each shared operation. -/

namespace Sys2Proof.Machine

/-- What a trip's answers, edges and ends never change: only section records, zones and the SECTION flag
move, and that flag is never cleared. -/
def Device.SameButTrip (p q : Device) : Prop :=
  q.link = p.link ∧ q.clock = p.clock ∧ (q.slots = p.slots ∧ q.held = p.held) ∧ q.nodes = p.nodes
    ∧ q.strangers = p.strangers ∧ q.overwrites = p.overwrites ∧ q.profiles = p.profiles
    ∧ q.port = p.port ∧ q.now = p.now ∧ q.choices = p.choices
    ∧ q.alerts.enables = p.alerts.enables
    ∧ (q.alerts.flags.node = p.alerts.flags.node ∧ q.alerts.flags.stranger = p.alerts.flags.stranger
      ∧ q.alerts.flags.link = p.alerts.flags.link ∧ q.alerts.flags.sync = p.alerts.flags.sync)
    ∧ (p.alerts.flags.sect = true → q.alerts.flags.sect = true)

theorem Device.SameButTrip.refl (p : Device) : p.SameButTrip p := by simp [Device.SameButTrip]

theorem Device.SameButTrip.trans {p q r : Device} (h : p.SameButTrip q) (k : q.SameButTrip r) :
    p.SameButTrip r := by
  obtain ⟨h1, h2, ⟨h3, hh⟩, h4, h5, h6, h7, h8, h9, h10, h11, ⟨hn, hs, hl, hy⟩, ho⟩ := h
  obtain ⟨k1, k2, ⟨k3, kh⟩, k4, k5, k6, k7, k8, k9, k10, k11, ⟨kn, ks, kl, ky⟩, ko⟩ := k
  exact ⟨k1.trans h1, k2.trans h2, ⟨k3.trans h3, kh.trans hh⟩, k4.trans h4, k5.trans h5, k6.trans h6, k7.trans h7,
    k8.trans h8, k9.trans h9, k10.trans h10, k11.trans h11,
    ⟨kn.trans hn, ks.trans hs, kl.trans hl, ky.trans hy⟩, fun e => ko (ho e)⟩

/-- A fold keeps what each of its steps keeps. -/
theorem Device.SameButTrip.foldl {α : Type} (f : Device → α → Device)
    (h : ∀ (q : Device) (a : α), q.SameButTrip (f q a)) (l : List α) (p : Device) : p.SameButTrip (l.foldl f p) := by
  induction l generalizing p with
  | nil => exact .refl p
  | cons a l ih => exact (h p a).trans (ih (f p a))

theorem Device.setSection_sameButTrip (p : Device) (i : SecIx) (r : SectionRec) :
    p.SameButTrip (p.setSection i r) := by simp [Device.SameButTrip]

theorem Device.setZone_sameButTrip (p : Device) (z : ZoneIx) (y : Zone) : p.SameButTrip (p.setZone z y) := by
  simp [Device.SameButTrip]

theorem Device.mapSections_sameButTrip (p : Device) (f : SecIx → SectionRec → SectionRec) :
    p.SameButTrip (p.mapSections f) := by simp [Device.SameButTrip]

theorem Device.mapListed_sameButTrip (p : Device) (l : List SecIx) (f : SectionRec → SectionRec) :
    p.SameButTrip (p.mapListed l f) := by simp [Device.SameButTrip]

theorem Device.latchOutcome_sameButTrip (p : Device) (z : ZoneIx) (o : OutcomeRec) :
    p.SameButTrip (p.latchOutcome z o) := by simp [Device.SameButTrip]

theorem Device.setSectionFlag_sameButTrip (p : Device) : p.SameButTrip p.setSectionFlag := by
  simp [Device.SameButTrip]

theorem Device.sectionFlagIf_sameButTrip (p : Device) (b : Bool) : p.SameButTrip (p.sectionFlagIf b) := by
  unfold Device.sectionFlagIf
  split
  · exact p.setSectionFlag_sameButTrip
  · exact .refl p

/-- R142: an escalation. -/
theorem Device.escalate_sameButTrip (p : Device) (l : List SecIx) : p.SameButTrip (p.escalate l) := by
  unfold Device.escalate
  repeat' split
  all_goals simp [Device.SameButTrip]

/-- R141: the answer to a trip request. -/
theorem Device.tripRequest_sameButTrip (p : Device) (i : SecIx) : p.SameButTrip (p.tripRequest i) := by
  unfold Device.tripRequest
  dsimp only
  split
  · split
    · split <;> simp [Device.SameButTrip]
    · simp [Device.SameButTrip]
    · split
      · exact p.escalate_sameButTrip [i]
      · simp [Device.SameButTrip]
  · simp [Device.SameButTrip]

/-- R136, R145, R148: an open edge. -/
theorem Device.openEdge_sameButTrip (p : Device) (z : ZoneIx) : p.SameButTrip (p.openEdge z) := by
  unfold Device.openEdge
  dsimp only
  split <;> simp [Device.SameButTrip, Device.endOpened, Device.endLateOpen]

/-- R8, R137: a placement. -/
theorem Device.placeEnergized_sameButTrip (p : Device) (i : SecIx) (r : SectionRec) :
    p.SameButTrip (p.placeEnergized i r) := by
  unfold Device.placeEnergized
  split <;> simp [Device.SameButTrip]

theorem Device.place_sameButTrip (p : Device) (i : SecIx) (r : SectionRec) : p.SameButTrip (p.place i r) := by
  unfold Device.place
  split
  · exact p.placeEnergized_sameButTrip i r
  · simp [Device.SameButTrip]

/-- R137: a close edge. -/
theorem Device.closeEdge_sameButTrip (p : Device) (z : ZoneIx) : p.SameButTrip (p.closeEdge z) := by
  refine Device.SameButTrip.foldl _ (fun q i => ?_) _ p
  unfold Device.closeEdgeRecord
  split
  · exact q.placeEnergized_sameButTrip i _
  · exact .refl q

theorem Device.afterBreaker_sameButTrip (p : Device) (z : ZoneIx) (was : Bool) :
    p.SameButTrip (p.afterBreaker z was) := by
  unfold Device.afterBreaker
  repeat' split
  · exact .refl p
  · exact p.openEdge_sameButTrip z
  · exact p.closeEdge_sameButTrip z

theorem Device.becomeStable_sameButTrip (p : Device) (z : ZoneIx) (level : Bool) :
    p.SameButTrip (p.becomeStable z level) :=
  (p.setZone_sameButTrip z _).trans (Device.afterBreaker_sameButTrip _ z _)

/-- R133: a level change on a breaker input. -/
theorem Device.changeLevel_sameButTrip (p : Device) (z : ZoneIx) (high : Bool) :
    p.SameButTrip (p.changeLevel z high) := by
  unfold Device.changeLevel
  dsimp only
  repeat' split
  · exact p.setZone_sameButTrip z _
  · exact (p.setZone_sameButTrip z _).trans (Device.becomeStable_sameButTrip _ z high)
  · exact (p.setZone_sameButTrip z _).trans (Device.setZone_sameButTrip _ z _)

/-- R146, R147: a timeout. -/
theorem Device.timeout_sameButTrip (p : Device) (z : ZoneIx) : p.SameButTrip (p.timeout z) := by
  unfold Device.timeout
  dsimp only
  split
  · exact ((p.latchOutcome_sameButTrip z _).trans (Device.setZone_sameButTrip _ z _)).trans
      (Device.escalate_sameButTrip _ _)
  · exact ((p.latchOutcome_sameButTrip z _).trans (Device.setZone_sameButTrip _ z _)).trans
      (Device.mapListed_sameButTrip _ _ _)

/-- R104 to R111: what the transition decision does. -/
theorem Device.carryOut_sameButTrip (p : Device) (i : SecIx) (e : Half) (r : SectionRec) :
    p.SameButTrip (p.carryOut i e r) := by
  unfold Device.carryOut
  split
  · exact ((p.setSection_sameButTrip i _).trans (Device.setSectionFlag_sameButTrip _)).trans
      (Device.tripRequest_sameButTrip _ i)
  · exact (p.setSection_sameButTrip i _).trans (Device.sectionFlagIf_sameButTrip _ _)
  · exact p.setSection_sameButTrip i _
  · exact p.setSection_sameButTrip i _

/-- R90 to R111: an evaluation. -/
theorem Device.evaluate_sameButTrip (c : Close) (p : Device) (i : SecIx) : p.SameButTrip (p.evaluate c i) := by
  unfold Device.evaluate
  dsimp only
  repeat' split
  · exact (p.sectionFlagIf_sameButTrip _).trans (Device.setSection_sameButTrip _ i _)
  · exact (p.sectionFlagIf_sameButTrip _).trans (Device.carryOut_sameButTrip _ i _ _)
  · exact .refl p

/-- R89: the work of one close on one record. -/
theorem Device.recordWork_sameButTrip (c : Close) (p : Device) (i : SecIx) :
    p.SameButTrip (p.recordWork c i) := by
  have park : p.SameButTrip (p.parkOrEvaluate c i) := by
    unfold Device.parkOrEvaluate
    dsimp only
    repeat' split
    · exact (p.setSection_sameButTrip i _).trans (Device.setSectionFlag_sameButTrip _)
    · exact p.evaluate_sameButTrip c i
    · exact p.setSection_sameButTrip i _
  have back : p.SameButTrip (p.recover i) := by
    unfold Device.recover
    dsimp only
    split
    · exact p.setSection_sameButTrip i _
    · exact .refl p
  unfold Device.recordWork
  split
  all_goals first
    | exact park
    | exact back
    | exact p.evaluate_sameButTrip c i
    | exact .refl p

/-- What closes and ticks never change: the tables of nodes and sections, the zones, the slots, the work in
hand, and the SECTION and NODE flags alone move, and no flag is cleared. -/
def Device.KeptByWork (p q : Device) : Prop :=
  q.link = p.link ∧ q.clock = p.clock ∧ q.strangers = p.strangers ∧ q.overwrites = p.overwrites
    ∧ q.profiles = p.profiles ∧ q.port = p.port ∧ q.now = p.now ∧ q.choices = p.choices
    ∧ q.alerts.enables = p.alerts.enables
    ∧ (q.alerts.flags.stranger = p.alerts.flags.stranger ∧ q.alerts.flags.link = p.alerts.flags.link
      ∧ q.alerts.flags.sync = p.alerts.flags.sync)
    ∧ (p.alerts.flags.sect = true → q.alerts.flags.sect = true)
    ∧ (p.alerts.flags.node = true → q.alerts.flags.node = true)

theorem Device.KeptByWork.refl (p : Device) : p.KeptByWork p := by simp [Device.KeptByWork]

theorem Device.KeptByWork.trans {p q r : Device} (h : p.KeptByWork q) (k : q.KeptByWork r) :
    p.KeptByWork r := by
  obtain ⟨h1, h2, h3, h4, h5, h6, h7, h8, h9, ⟨hs, hl, hy⟩, ho, hn⟩ := h
  obtain ⟨k1, k2, k3, k4, k5, k6, k7, k8, k9, ⟨ks, kl, ky⟩, ko, kn⟩ := k
  exact ⟨k1.trans h1, k2.trans h2, k3.trans h3, k4.trans h4, k5.trans h5, k6.trans h6, k7.trans h7,
    k8.trans h8, k9.trans h9, ⟨ks.trans hs, kl.trans hl, ky.trans hy⟩, fun e => ko (ho e),
    fun e => kn (hn e)⟩

theorem Device.SameButTrip.kept {p q : Device} (h : p.SameButTrip q) : p.KeptByWork q := by
  obtain ⟨h1, h2, -, -, h5, h6, h7, h8, h9, h10, h11, ⟨hn, hs, hl, hy⟩, ho⟩ := h
  exact ⟨h1, h2, h5, h6, h7, h8, h9, h10, h11, ⟨hs, hl, hy⟩, ho, fun e => hn.trans e⟩

/-- R41 to R43: the Node Table's work on a close. -/
theorem Device.nodeWork_kept (c : Close) (p : Device) :
    p.KeptByWork (p.nodeWork c) ∧ ((p.nodeWork c).slots = p.slots ∧ (p.nodeWork c).held = p.held)
      ∧ (p.nodeWork c).sections = p.sections ∧ (p.nodeWork c).zones = p.zones
      ∧ (p.nodeWork c).nodes = p.nodes.mapIdx (Node.afterClose c p.clock.settings.missLimit) := by
  unfold Device.nodeWork
  dsimp only
  split <;> simp [Device.KeptByWork]

/-- R89: the work of a close on some of the records. -/
theorem Device.recordsWork_sameButTrip (c : Close) (l : List SecIx) (p : Device) :
    p.SameButTrip (l.foldl (Device.recordWork c) p) :=
  Device.SameButTrip.foldl (Device.recordWork c) (fun q i => q.recordWork_sameButTrip c i) _ p

/-- R83, R89: one close. -/
theorem Device.workClose_kept (p : Device) (c : Close) :
    p.KeptByWork (p.workClose c) ∧ ((p.workClose c).slots = p.slots ∧ (p.workClose c).held = p.held)
      ∧ (p.workClose c).nodes = p.nodes.mapIdx (Node.afterClose c p.clock.settings.missLimit) := by
  obtain ⟨k, ⟨ks, kh⟩, -, -, kn⟩ := p.nodeWork_kept c
  have h := Device.recordsWork_sameButTrip c (List.finRange 128) (p.nodeWork c)
  exact ⟨k.trans h.kept, ⟨h.2.2.1.1.trans ks, h.2.2.1.2.trans kh⟩, h.2.2.2.1.trans kn⟩

/-- R83, R88: several closes. -/
theorem Device.workCloses_kept (cs : List Close) (p : Device) :
    p.KeptByWork (p.workCloses cs) ∧ (p.workCloses cs).slots = p.slots ∧ (p.workCloses cs).held = p.held := by
  induction cs generalizing p with
  | nil => exact ⟨.refl p, rfl, rfl⟩
  | cons c cs ih =>
    have w := p.workClose_kept c
    have i := ih (p.workClose c)
    have e : p.workCloses (c :: cs) = (p.workClose c).workCloses cs := by
      rw [Device.workCloses, List.foldl_cons, ← Device.workCloses]
    rw [e]
    exact ⟨w.1.trans i.1, i.2.1.trans w.2.1.1, i.2.2.trans w.2.1.2⟩

/-- R83, R89: what is left of the work on a close. -/
theorem Device.finishClose_kept (p : Device) (c : Close) :
    p.KeptByWork (p.finishClose c) ∧ (p.finishClose c).slots = p.slots ∧ (p.finishClose c).held = p.held := by
  unfold Device.finishClose
  split
  · exact ⟨(p.workClose_kept c).1, (p.workClose_kept c).2.1⟩
  · rename_i i _
    have h := Device.recordsWork_sameButTrip c ((List.finRange 128).drop i.val) p
    exact ⟨h.kept, h.2.2.1⟩

/-- R83: the work in hand done to its end: no close is held after it, and the slots stand. -/
theorem Device.finishWork_kept (p : Device) :
    p.KeptByWork p.finishWork ∧ p.finishWork.slots = p.slots ∧ p.finishWork.held.closes = [] := by
  unfold Device.finishWork
  split
  · rename_i h
    exact ⟨.refl p, rfl, h⟩
  · rename_i c rest h
    have f := p.finishClose_kept c
    have w := Device.workCloses_kept rest { p.finishClose c with held := { closes := [], reach := none } }
    exact ⟨f.1.trans w.1, w.2.1.trans f.2.1, by rw [w.2.2]⟩

/-- R83: room for one close more: at most three of the four are held after it, and the slots stand. -/
theorem Device.makeRoom_kept (p : Device) :
    p.KeptByWork p.makeRoom ∧ p.makeRoom.slots = p.slots
      ∧ (p.held.closes.length ≤ 4 → p.makeRoom.held.closes.length ≤ 3) := by
  unfold Device.makeRoom
  split
  · rename_i c rest h
    have f := p.finishClose_kept c
    split
    · exact ⟨f.1, f.2.1, by simp [h]; omega⟩
    · exact ⟨.refl p, rfl, by simp [Config.slotCount] at *; omega⟩
  · rename_i h
    exact ⟨.refl p, rfl, by simp [h]⟩

/-- R82: the slots that a piece of work leaves open, and the closes that it delivers behind those held. -/
theorem Device.closeOldest_kept (p : Device) (k : Nat) :
    p.KeptByWork (p.closeOldest k)
      ∧ (p.closeOldest k).slots = (p.slots.drop k).dropWhile Slot.complete
      ∧ (p.closeOldest k).held.closes = p.held.closes
        ++ (p.slots.take k ++ (p.slots.drop k).takeWhile Slot.complete).map Slot.toClose :=
  ⟨by simp [Device.KeptByWork, Device.closeOldest], rfl, rfl⟩

/-- R78: opening a slot. -/
theorem Device.openSlot_kept (p : Device) (d : Moment) : p.KeptByWork (p.openSlot d) := by
  unfold Device.openSlot
  dsimp only
  split
  · exact (p.makeRoom_kept).1.trans (Device.closeOldest_kept { p.makeRoom with slots := _ } 0).1
  · exact (Device.closeOldest_kept { p with slots := _ } 0).1

/-- R78, R81, R82: the slots open after a slot has opened, and the closes held: one close more, in the room made
for it, where the new slot is COMPLETE and no other is open. -/
theorem Device.openSlot_slots (p : Device) (d : Moment) (h : ∀ s ∈ p.slots.head?, s.complete = false) :
    (p.slots = [] → (p.newSlot d).complete = true →
        (p.openSlot d).slots = [] ∧ (p.openSlot d).held.closes = p.makeRoom.held.closes ++ [(p.newSlot d).toClose])
      ∧ (p.slots ≠ [] ∨ (p.newSlot d).complete = false →
        p.openSlot d = { p with slots := p.slots ++ [p.newSlot d] }) := by
  refine ⟨fun hs hc => ?_, fun hk => ?_⟩
  · simp [Device.openSlot, Device.cascade, Device.closeOldest, hs, hc, (p.makeRoom_kept).2.1]
  · rcases hs : p.slots with _ | ⟨x, l⟩
    · have hc := hk.resolve_left (absurd hs)
      simp [Device.openSlot, Device.cascade, Device.closeOldest, hs, hc]
    · have hx : x.complete = false := h x (by simp [hs])
      simp [Device.openSlot, Device.cascade, Device.closeOldest, hs, hx]

/-- R83: no work is in hand once it is done to its end. -/
theorem Device.finishWork_idle (p : Device) : p.finishWork.held.inHand = false := by
  simp [HeldWork.inHand, (p.finishWork_kept).2.2]

/-- Finishing the work twice is finishing it once. -/
@[simp] theorem Device.finishWork_twice (p : Device) : p.finishWork.finishWork = p.finishWork :=
  Device.finishWork_of_idle p.finishWork_idle

/-- The passing of time: the moment moves on, and the work in hand alone moves anything else. -/
theorem Device.passTo_kept (p : Device) (t : Moment) :
    Device.KeptByWork { p with now := max p.now t } (p.passTo t) := by
  rcases Nat.lt_or_ge p.now t with h | h
  · rw [Device.passTo_of_lt h, Nat.max_eq_right (Nat.le_of_lt h)]
    have k := (p.finishWork_kept).1
    unfold Device.KeptByWork at k ⊢
    simp_all
  · rw [Device.passTo_of_le h, Nat.max_eq_left h]
    exact .refl p

/-- One piece of the work in hand. -/
theorem Device.workPiece_kept (p : Device) : p.KeptByWork p.workPiece := by
  unfold Device.workPiece
  split
  · rename_i c _ _
    unfold Device.closePiece
    split
    · have k := (p.nodeWork_kept c).1
      unfold Device.KeptByWork at k ⊢
      exact k
    · rename_i i _
      have k := (p.recordWork_sameButTrip c i).kept
      unfold Device.KeptByWork at k ⊢
      exact k
  · exact .refl p

/-- R78: a tick at the assembler. -/
theorem Device.takeTick_kept (p : Device) : p.KeptByWork p.takeTick := by
  unfold Device.takeTick
  dsimp only
  split
  · exact (p.closeOldest_kept 1).1.trans (Device.openSlot_kept _ _)
  · exact p.openSlot_kept _

/-- R75, R78: a tick raises the epoch number, and keeps what closes keep. -/
theorem Device.tick_kept (p : Device) :
    Device.KeptByWork { p with clock := { p.clock with epoch := p.clock.epoch + 1#16 } } p.tick := by
  have k := (p.finishWork_kept).1
  have t := Device.takeTick_kept
    { p.finishWork with clock := { p.finishWork.clock with epoch := p.finishWork.clock.epoch + 1#16 } }
  refine Device.KeptByWork.trans ?_ t
  unfold Device.KeptByWork at k ⊢
  simp_all

end Sys2Proof.Machine
end

