-- ==== Sys2Proof/Laws/Held.lean ====
section
/-! SUPPORT. The work on closes does not look at the record of what work is still in hand: for each shared
operation, changing that record first or afterwards is the same. -/

namespace Sys2Proof.Machine

/-- The part with other work in hand. -/
def Device.withHeld (w : HeldWork) (p : Device) : Device := { p with held := w }

/-- R142: an escalation does not look at the work in hand. -/
theorem Device.escalate_withHeld (p : Device) (w : HeldWork) (l : List SecIx) :
    (p.withHeld w).escalate l = (p.escalate l).withHeld w := by
  have h : ∀ z, (p.withHeld w).zones.get z = p.zones.get z := fun _ => rfl
  have h2 : (p.withHeld w).zone0Takes = p.zone0Takes := rfl
  simp only [Device.escalate, h, h2]
  split
  · split
    · rfl
    · split <;> rfl
    · rfl
  · rfl

/-- R141: neither does the answer to a trip request. -/
theorem Device.tripRequest_withHeld (p : Device) (w : HeldWork) (i : SecIx) :
    (p.withHeld w).tripRequest i = (p.tripRequest i).withHeld w := by
  have h : ∀ r : SecIx, (p.withHeld w).sections.get r = p.sections.get r := fun _ => rfl
  have h2 : ∀ z, (p.withHeld w).zones.get z = p.zones.get z := fun _ => rfl
  simp only [Device.tripRequest, h, h2, Device.escalate_withHeld]
  split
  · split
    · split <;> rfl
    · rfl
    · split <;> rfl
  · rfl

/-- R104 to R111: nor the transition decision. -/
theorem Device.carryOut_withHeld (p : Device) (w : HeldWork) (i : SecIx) (e : Half) (r : SectionRec) :
    (p.withHeld w).carryOut i e r = (p.carryOut i e r).withHeld w := by
  have h2 : ∀ z, (p.withHeld w).zones.get z = p.zones.get z := fun _ => rfl
  have h3 : ∀ r, (p.withHeld w).profileOf r = p.profileOf r := fun _ => rfl
  simp only [Device.carryOut, h2, h3]
  split
  · exact Device.tripRequest_withHeld (p.setSection i _).setSectionFlag w i
  · cases (r.state != .suspect) <;> rfl
  · rfl
  · rfl

/-- R90 to R111: nor an evaluation. -/
theorem Device.evaluate_withHeld (c : Close) (p : Device) (w : HeldWork) (i : SecIx) :
    (p.withHeld w).evaluate c i = (p.evaluate c i).withHeld w := by
  have h : ∀ r : SecIx, (p.withHeld w).sections.get r = p.sections.get r := fun _ => rfl
  have h3 : ∀ r, (p.withHeld w).profileOf r = p.profileOf r := fun _ => rfl
  have h4 : ∀ b, (p.withHeld w).sectionFlagIf b = (p.sectionFlagIf b).withHeld w := by
    intro b; cases b <;> rfl
  simp only [Device.evaluate, h, h3, h4, Device.carryOut_withHeld]
  split
  · split <;> rfl
  · rfl

/-- R89: the work on a record does not look at the work in hand. -/
theorem Device.recordWork_withHeld (c : Close) (p : Device) (w : HeldWork) (i : SecIx) :
    (p.withHeld w).recordWork c i = (p.recordWork c i).withHeld w := by
  have h : ∀ r : SecIx, (p.withHeld w).sections.get r = p.sections.get r := fun _ => rfl
  have h3 : ∀ r, (p.withHeld w).profileOf r = p.profileOf r := fun _ => rfl
  have h5 : ∀ z, (p.withHeld w).energized z = p.energized z := fun _ => rfl
  have h6 : ∀ r, (p.withHeld w).namesBadNode r = p.namesBadNode r := fun _ => rfl
  have park : (p.withHeld w).parkOrEvaluate c i = (p.parkOrEvaluate c i).withHeld w := by
    simp only [Device.parkOrEvaluate, h, h5, h6, Device.evaluate_withHeld]
    split
    · split <;> rfl
    · rfl
  have back : (p.withHeld w).recover i = (p.recover i).withHeld w := by
    simp only [Device.recover, h, h3, h5, h6]
    split <;> rfl
  simp only [Device.recordWork, h, park, back, Device.evaluate_withHeld]
  split <;> rfl

/-- R89: nor does the work on several records. -/
theorem Device.recordsWork_withHeld (c : Close) (l : List SecIx) (p : Device) (w : HeldWork) :
    l.foldl (Device.recordWork c) (p.withHeld w) = (l.foldl (Device.recordWork c) p).withHeld w := by
  induction l generalizing p with
  | nil => rfl
  | cons i l ih => rw [List.foldl_cons, List.foldl_cons, Device.recordWork_withHeld, ih]
/-- R41 to R43, R83: nor does the Node Table's work. -/
theorem Device.nodeWork_withHeld (c : Close) (p : Device) (w : HeldWork) :
    (p.withHeld w).nodeWork c = (p.nodeWork c).withHeld w := by
  have h : (p.withHeld w).nodes = p.nodes := rfl
  have k : (p.withHeld w).clock = p.clock := rfl
  simp only [Device.nodeWork, h, k]
  split <;> rfl

/-- R83, R89: nor does the work on one close, whole. -/
theorem Device.workClose_withHeld (p : Device) (w : HeldWork) (c : Close) :
    (p.withHeld w).workClose c = (p.workClose c).withHeld w := by
  rw [Device.workClose, Device.nodeWork_withHeld, Device.recordsWork_withHeld, ← Device.workClose]

/-- R83, R88: closes are worked one after the other. -/
theorem Device.workCloses_cons (p : Device) (c : Close) (cs : List Close) :
    p.workCloses (c :: cs) = (p.workClose c).workCloses cs := by
  rw [Device.workCloses, List.foldl_cons, ← Device.workCloses]

/-- R83, R88: nor does the work on several closes. -/
theorem Device.workCloses_withHeld (cs : List Close) (p : Device) (w : HeldWork) :
    (p.withHeld w).workCloses cs = (p.workCloses cs).withHeld w := by
  induction cs generalizing p with
  | nil => rfl
  | cons c cs ih => rw [Device.workCloses_cons, Device.workCloses_cons, Device.workClose_withHeld, ih]

end Sys2Proof.Machine
end

