-- ==== Sys2Proof/Laws/Operands.lean ====
section
/-! SUPPORT. What each form of command parameter reads, in range and out of range. -/

namespace Sys2Proof.Machine

/-- A number below 256 comes back from its byte. -/
theorem natByte_toNat {k : Nat} (h : k < 256) : (natByte k).toNat = k := by
  simp only [natByte, BitVec.toNat_ofNat]
  exact Nat.mod_eq_of_lt h

/-- An index in range is read as sent (R12). -/
@[simp] theorem indexParam_natByte {n : Nat} (hn : n ≤ 256) (i : Fin n) :
    indexParam n (natByte i.val) = some i := by
  have e : (natByte i.val).toNat = i.val := natByte_toNat (by omega)
  simp only [indexParam, e, i.isLt, dite_true]

@[simp] theorem sectionParam (i : SecIx) : indexParam 128 (natByte i.val) = some i :=
  indexParam_natByte (by omega) i

@[simp] theorem nodeParam (i : NodeIx) : indexParam 64 (natByte i.val) = some i :=
  indexParam_natByte (by omega) i

@[simp] theorem profileParam (i : ProfIx) : indexParam 8 (natByte i.val) = some i :=
  indexParam_natByte (by omega) i

@[simp] theorem zoneParam (i : ZoneIx) : indexParam 4 (natByte i.val) = some i :=
  indexParam_natByte (by omega) i

@[simp] theorem slotParam (i : Fin 3) : indexParam 3 (natByte i.val) = some i :=
  indexParam_natByte (by omega) i

/-- An index out of range is read as none (R12). -/
theorem indexParam_none {n : Nat} {b : Byte} (h : n ≤ b.toNat) : indexParam n b = none := by
  simp only [indexParam, Nat.not_lt.mpr h, dite_false]

/-- A flag parameter in its coding (R182). -/
@[simp] theorem flagParam_flag (b : Bool) : flagParam (if b then 0x01#8 else 0x00#8) = some b := by
  cases b <;> decide

/-- A byte above the last code of a two-valued parameter is none of them. -/
theorem flagParam_none {b : Byte} (h : 1 < b.toNat) : flagParam b = none := by
  have h0 : b ≠ 0#8 := by rintro rfl; simp at h
  have h1 : b ≠ 1#8 := by rintro rfl; simp at h
  simp [flagParam, h0, h1]

/-- A hazard code in its coding (R130). -/
@[simp] theorem hazardParam_code (h : Hazard) : hazardParam h.code = some h := by
  cases h <;> decide

theorem hazardParam_none {b : Byte} (h : 2 < b.toNat) : hazardParam b = none := by
  have h0 : b ≠ 0#8 := by rintro rfl; simp at h
  have h1 : b ≠ 1#8 := by rintro rfl; simp at h
  have h2 : b ≠ 2#8 := by rintro rfl; simp at h
  simp [hazardParam, h0, h1, h2]

/-- A polarity code in its coding (R130). -/
@[simp] theorem polarityParam_code (p : Polarity) : polarityParam p.code = some p := by
  cases p <;> decide

theorem polarityParam_none {b : Byte} (h : 1 < b.toNat) : polarityParam b = none := by
  have h0 : b ≠ 0#8 := by rintro rfl; simp at h
  have h1 : b ≠ 1#8 := by rintro rfl; simp at h
  simp [polarityParam, h0, h1]

/-- A source code in its coding (R69). -/
@[simp] theorem sourceParam_code (c : ClockSource) : sourceParam c.code = some c := by
  cases c <;> decide

theorem sourceParam_none {b : Byte} (h : 1 < b.toNat) : sourceParam b = none := by
  have h0 : b ≠ 0#8 := by rintro rfl; simp at h
  have h1 : b ≠ 1#8 := by rintro rfl; simp at h
  simp [sourceParam, h0, h1]

/-- A rate code in its coding (R53). -/
@[simp] theorem rateParam_code (r : LinkRate) : rateParam r.code = some r := by
  cases r <;> decide

/-- A phase set in its coding (R182); an empty one is out of range. -/
theorem phaseSetParam_code (a b c : Bool) :
    phaseSetParam (bits8 false false false false false c b a) =
      if a || b || c then some ⟨a, b, c⟩ else none := by
  cases a <;> cases b <;> cases c <;> decide

theorem phaseSetParam_none {b : Byte} (h : b.toNat = 0 ∨ 7 < b.toNat) : phaseSetParam b = none := by
  have h' : b = 0#8 ∨ 7 < b.toNat := h.imp_left fun e => BitVec.eq_of_toNat_eq e
  simp only [phaseSetParam, if_pos h']

/-- A downstream field that names a node (R16). -/
@[simp] theorem nodeField_node (n : NodeIx) : nodeField (natByte n.val) = some (some n) := by
  have h : natByte n.val ≠ 255#8 := by
    intro e
    have e' := congrArg BitVec.toNat e
    rw [natByte_toNat (by omega)] at e'
    simp at e'
    omega
  simp [nodeField, h]

/-- The "no node" value of a downstream field (R16). -/
@[simp] theorem nodeField_none : nodeField 255#8 = some none := by
  simp [nodeField]

/-- A downstream field out of range (R16). -/
theorem nodeField_out {b : Byte} (h : 64 ≤ b.toNat) (h' : b ≠ 255#8) : nodeField b = none := by
  simp [nodeField, h', indexParam_none h]

/-- Clamping keeps a value in range, and changes nothing that was in range. -/
theorem clamp_le {lo hi n : Nat} : clamp lo hi n ≤ hi := Nat.min_le_left _ _

theorem le_clamp {lo hi n : Nat} (h : lo ≤ hi) : lo ≤ clamp lo hi n :=
  Nat.le_min.mpr ⟨h, Nat.le_max_left _ _⟩

theorem clamp_eq_self {lo hi n : Nat} (h : lo ≤ n) (h' : n ≤ hi) : clamp lo hi n = n := by
  simp only [clamp]
  omega

end Sys2Proof.Machine
end

