-- ==== Sys2Proof/WellFormed.lean ====
section
/-! DEFINITION. Which terms name an event of the block. Host commands are all well formed: a parameter out
of range is judged by the owning block (R172). The three breaker rows name one of the lines BRK0..BRK3. -/

namespace Sys2Proof

/-- The part has four zones, each with one breaker line (R129). -/
def Instr.wellFormed : Instr → Bool
  | .brkLevelChange _ z _ => decide (z < 4)
  | .debounceExpiry z => decide (z < 4)
  | .tripTimeout z => decide (z < 4)
  | _ => true

end Sys2Proof
end

