-- ==== Sys2Proof/Tests/Slice0.lean ====
section
/-! SUPPORT. The model's own checks: well-formedness, command words written out from section 9.6, single steps
from the spec's tables and examples, and for each statement with hypotheses a state that meets them. -/

namespace Sys2Proof.Tests

open Sys2Proof.Machine

/-! ## Well-formedness: an ill-formed term for each check -/

theorem test_ill_formed_breaker_line : (Instr.brkLevelChange 0 4 true).wellFormed = false := by decide

theorem test_ill_formed_debounce_line : (Instr.debounceExpiry 4).wellFormed = false := by decide

theorem test_ill_formed_trip_zone : (Instr.tripTimeout 4).wellFormed = false := by decide

theorem test_well_formed_breaker_line : (Instr.brkLevelChange 0 3 true).wellFormed = true := by decide

/-! ## Command words, from the command index of section 9.6 -/

/-- 12h and one parameter byte (R67). -/
theorem test_word_set_feeder_id : decodeCommand [0x12#8, 0x11#8] = some (.setFeederId 17#8) := by decide

/-- 20h, node, three address bytes, phase set (R35). -/
theorem test_word_bind_node : decodeCommand [0x20#8, 0x05#8, 0x00#8, 0xA0#8, 0x01#8, 0x07#8] =
    some (.bindNode 5#8 0x00A001#24 7#8) := by decide

/-- 14h and eight parameter bytes, the two-byte fields high byte first (R69). -/
theorem test_word_set_epoch_clock :
    decodeCommand [0x14#8, 0x00#8, 0x14#8, 0x05#8, 0x0B#8, 0xB8#8, 0x00#8, 0x32#8, 0x05#8] =
      some (.setEpochClock 0#8 20#8 5#8 3000#16 50#16 5#8) := by decide

/-- 40h and eight parameter bytes (R130). -/
theorem test_word_set_zone :
    decodeCommand [0x40#8, 0x01#8, 0x02#8, 0x01#8, 0x01#8, 0x00#8, 0xC8#8, 0x04#8, 0x00#8] =
      some (.setZone 1#8 2#8 1#8 1#8 200#16 4#8 0#8) := by decide

/-- A code that names no command, and a word one parameter short (R171, R172). -/
theorem test_words_refused :
    decodeCommand [0x1A#8] = none ∧ decodeCommand [0x12#8] = none ∧ decodeCommand [0x55#8] = none := by decide

/-! ## Small states -/

/-- The part right after reset, with straps 17. -/
def quiet : Device := State.reset.device

def abc : PhaseSet := ⟨true, true, true⟩

def feeder (a : Addr) : Node :=
  { bound := true, addr := a, phases := abc, health := .live, miss := 0, refs := 1, lastHeard := none }

/-- An ARMED record of zone 1 between nodes 1 and 2. -/
def armed : SectionRec :=
  { SectionRec.vacant with state := .armed, upstream := 1, downstream := [2], zone := 1, phases := abc }

def inState (st : SecState) : SectionRec := { armed with state := st }

/-- A CONFIRMED record of zone 1 with a trip mark. -/
def confirmed (m : TripMark) : SectionRec :=
  { armed with state := .confirmed, mark := m, cause := some ⟨.openLine, .a⟩, confirmEpoch := some 0#16 }

/-- A part whose nodes 1 and 2 are bound and whose section 0 stands as `r`. -/
def watching (r : SectionRec) : Device :=
  { quiet with
    nodes := (quiet.nodes.set 1 (feeder 0x000011#24)).set 2 (feeder 0x000012#24)
    sections := quiet.sections.set 0 r }

/-- Zone 1, as after reset, changed. -/
def zoneAs (f : Zone → Zone) : Device := { quiet with zones := quiet.zones.set 1 (f (quiet.zones.get 1)) }

def clockAs (f : EpochClock → EpochClock) : Device := quiet.withClock f

def linkAs (f : LinkReceiver → LinkReceiver) : Device := quiet.withLink f

def portAs (f : HostPort → HostPort) : Device := quiet.withPort f

def waiting (p : Device) : State := ⟨p, []⟩

/-- The result bytes after one step; none when the step does not answer a next state. -/
def resultOf (o : Host.Outcome State Fault Refusal) : List Byte :=
  match o with
  | .next t => t.device.port.result
  | _ => []

/-- What one field of the next part shows. -/
def seen {α : Type} (f : Device → α) (o : Host.Outcome State Fault Refusal) : Option α :=
  match o with
  | .next t => some (f t.device)
  | _ => none

/-! ## Values and single steps, from the spec's tables and examples -/

/-- R65's example: strap value 17 with FID_PAR low reads two pins high, and the part enters amnesia. -/
theorem test_reset_even_parity :
    seen (fun p => (p.link.feederId, p.link.amnesia))
      (exec (.rstNReset { fid := 17#6, fidPar := false, brk := 0#4, csLow := false }) State.reset) =
      some (63, true) := by decide

/-- R184: a port in IDLE with nothing else standing reads 80h. -/
theorem test_status_byte_idle : quiet.statusByte = 0x80#8 := by decide

/-- R72: a pulse 10 ms after the reference instant is early under period 20 and grace 5: a glitch, no tick. -/
theorem test_early_pulse : seen (fun p => (p.clock.glitches, p.clock.epoch, p.clock.ref))
    (exec (.syncPulse 40960) (waiting (clockAs fun c => { c with lock := .locked, ref := some 0 }))) =
      some (1, 0#16, some 0) := by decide

/-- R96's example: with the defaults the increment reaches 15 at a residual of 85 and stays there. -/
theorem test_leak_increment : leakIncrement Profile.default 15 = 1 ∧ leakIncrement Profile.default 84 = 14
    ∧ leakIncrement Profile.default 85 = 15 ∧ leakIncrement Profile.default 32767 = 15 := by decide

/-- R123's example: at the defaults the effective open trip level at EXTREME is 6. -/
theorem test_open_trip_extreme : tOpen Profile.default .extreme = 6 ∧ tOpen Profile.default .elevated = 12 := by
  decide

/-- R185's example: cause GROUND on phase B reads C1h. -/
theorem test_cause_byte : causeByte (some ⟨.ground, .b⟩) = 0xC1#8 := by decide

/-- R118's examples: LIVE_LEVEL 0 becomes 1, OPEN_STEP 200 becomes 64, REVERSE_TOL 40000 becomes 32767. -/
theorem test_profile_clamps :
    let f := Profile.ofSent (sentProfile 0#16 410#16 200#8 4#8 12#8 15#16 5#16 1#8 40#8 120#8 40000#16 25#8)
    (f.liveLevel, f.openStep, f.reverseTol) = (1, 64, 32767) := by decide

/-- R154: with every latch empty SENSE OUTCOME returns NONE alone. -/
theorem test_sense_nothing : resultOf (exec .senseOutcome (waiting quiet)) = [0x02#8] := by decide

/-- R67: 63 is the amnesia value and is refused with BAD_VALUE. -/
theorem test_feeder_id_63 : resultOf (exec (.setFeederId 63#8) (waiting quiet)) = [0x87#8] := by decide

/-- R144: a manual trip of an IDLE zone with its breaker CLOSED; R139: TRIP1 is asserted; 200 ms on the timer. -/
theorem test_trip_zone : seen (fun p => (p.trip 1, (p.zones.get 1).manual, (p.zones.get 1).timer))
    (exec (.tripZone 1#8) (waiting quiet)) = some (true, true, some 819200) := rfl

/-- R133: a level that differs starts a debounce interval of 4 ms. -/
theorem test_debounce_starts : seen (fun p => ((p.zones.get 2).stable, (p.zones.get 2).interval))
    (exec (.brkLevelChange 100 2 true) (waiting quiet)) = some (false, some ⟨true, 16484⟩) := by decide

/-- R19: a recalled SUSPECT record is a DRAFT and no longer blocks. -/
theorem test_recall_suspect : seen (fun p => (p.sections.get 0).state)
    (exec (.recallSection 0#8) (waiting (watching (inState .suspect)))) = some .draft := by decide

/-- R171: a code that names no command gives UNKNOWN_COMMAND at once. -/
theorem test_unknown_code : resultOf (exec (.codeByte 0x1A#8)
    (waiting (portAs fun h => { h with csLow := true, xfer := .write, miso := some 0x80#8 }))) =
      [0x80#8] := by decide

/-- R172: CS_N rises in COLLECTING: IDLE with ABANDONED set. -/
theorem test_abandoned : seen (fun p => (p.port.state, p.port.cmd, p.port.abandoned))
    (exec .transactionEnd (waiting (portAs fun h =>
      { h with state := .collecting, cmd := [0x12#8], csLow := true, xfer := .write, miso := some 0xA0#8 }))) =
      some (.idle, [], true) := by decide

/-- R52, R53: a stop bit without a start bit seen, or after SET LINK RATE discarded the character, delivers no
byte. -/
theorem test_character_without_start : seen (fun p => p.link.rx)
    (exec (.characterReceived 5 true 0xC9#8) (waiting quiet)) = some .hunt := by decide

/-- R52: in a break no start bit is seen until the line has returned high. -/
theorem test_start_bit_in_break : seen (fun p => p.link.inChar)
    (exec (.startBit 5) (waiting (linkAs fun l => { l with lowAt := some 5 }))) = some false := by decide

/-- R133: a level held for its whole interval becomes stable although the line turns back at the end. -/
theorem test_level_held_to_the_end : seen (fun p => ((p.zones.get 2).stable, (p.zones.get 2).interval))
    (exec (.brkLevelChange 16484 2 false) (waiting { quiet with
      zones := quiet.zones.set 2 { quiet.zones.get 2 with pin := true, interval := some ⟨true, 16484⟩ } })) =
      some (true, some ⟨false, 32868⟩) := by decide +kernel

/-- The work on a close has reached record 5. -/
def midway : Device :=
  { watching armed with held := { closes := [⟨0#16, [1, 2], []⟩], reach := some 5 } }

/-- R89, R113, R119: a LOAD PROFILE between the work on two records of one close. -/
theorem test_load_profile_between_records : seen (fun p => (p.held.reach, (p.profiles.get 0).openTrip))
    (exec (.loadProfile 0#8 600#16 410#16 4#8 4#8 9#8 15#16 5#16 1#8 40#8 120#8 50#16 25#8) (waiting midway)) =
      some (some 5, 9) := by decide

/-! ## The laws hold of a part that is not fresh from reset -/

/-- Section 0 ARMED between nodes 1 and 2, their slots open for epochs 65535 and 0. -/
def gathering (e : Half) : Slot := { epoch := e, deadline := 5000, expected := [1, 2], complete := false, reports := [] }

def busy : Device := { watching armed with slots := [gathering 0xFFFF#16, gathering 0#16] }

theorem witness_lawful_profiles : busy.profilesLawful := by
  intro i
  simp [busy, watching, quiet, State.reset, Device.afterReset, Profile.lawful, Profile.default]

theorem witness_lawful_clock : busy.clock.lawful := by
  unfold EpochClock.lawful ClockSettings.lawful
  decide

theorem witness_lawful_link : busy.link.lawful := by
  unfold LinkReceiver.lawful LinkCounters.lawful LinkReceiver.frameLawful
  simp [busy, watching, quiet, State.reset, Device.afterReset, LinkReceiver.afterReset, assumedPins, LinkCounters.zero]
  decide

theorem witness_lawful_port : busy.port.lawful := by
  simp [busy, watching, quiet, State.reset, Device.afterReset, HostPort.afterReset, HostPort.lawful,
    HostPort.buffersLawful, assumedPins]

theorem witness_lawful_nodes : busy.nodesLawful := by
  unfold Device.nodesLawful
  refine ⟨?_, ?_, ?_, ?_⟩ <;> decide +kernel

theorem witness_lawful_strangers : busy.strangersLawful := by
  simp [busy, watching, quiet, State.reset, Device.afterReset, Device.strangersLawful]

/-- No work in hand. -/
theorem witness_lawful_rest : HeldWork.empty.lawful := by simp [HeldWork.lawful, HeldWork.empty]

theorem witness_lawful_slots : busy.slotsLawful := by
  refine ⟨by decide, by decide, ?_, ?_, ?_, ?_, ?_, ?_⟩
  · simp [busy, gathering, Slot.full, Slot.arrived]
  · simp [busy, gathering]
  · simp [busy, gathering, Slot.arrived]
  · simp [busy, gathering]
    decide
  · simp [busy, gathering]
  · exact witness_lawful_rest

theorem witness_lawful_topology : busy.topologyLawful := by
  unfold Device.topologyLawful SectionRec.live Device.timesNamed
  refine ⟨?_, ?_, ?_, ?_, ?_⟩ <;> decide +kernel

theorem witness_sections (i : SecIx) : (busy.sections.get i) = if i = 0 then armed else SectionRec.vacant := by
  simp [busy, watching, quiet, State.reset, Device.afterReset, Table.get_set]

theorem witness_lawful_record (i : SecIx) : (busy.sections.get i).lawful := by
  rw [witness_sections]
  split
  · refine ⟨by decide, fun _ => by decide, by simp [armed, SectionRec.vacant, SectionRec.latched],
      by simp [armed, SectionRec.vacant, SectionRec.latched], by decide, fun h => absurd h (by decide), by decide, by decide, by decide,
      ?_, ?_, ?_, by decide⟩
    · intro ph; cases ph <;> decide
    · intro ph; cases ph <;> decide
    · intro _ ph; cases ph <;> decide
  · refine ⟨fun _ => rfl, fun h => absurd rfl h, by simp [SectionRec.vacant, SectionRec.latched],
      by simp [SectionRec.vacant, SectionRec.latched], by decide, fun h => absurd h (by decide), by decide, by decide, by decide,
      ?_, ?_, ?_, by decide⟩
    · intro ph; cases ph <;> decide
    · intro ph; cases ph <;> decide
    · intro _ ph; cases ph <;> decide

theorem witness_lawful_trips : busy.tripsLawful := by
  refine ⟨witness_lawful_record, ?_, ?_, ?_, ?_⟩
  · intro z
    simp [busy, watching, quiet, State.reset, Device.afterReset, Zone.lawful, Zone.afterReset]
  · intro z
    simp [busy, watching, quiet, State.reset, Device.afterReset, Zone.afterReset]
  · intro z i
    rw [witness_sections]
    have : (if i = 0 then armed else SectionRec.vacant).state ≠ .confirmed := by split <;> decide
    simp [busy, watching, quiet, State.reset, Device.afterReset, Zone.afterReset, this]
  · intro i
    rw [witness_sections]
    have : (if i = 0 then armed else SectionRec.vacant).mark ≠ .withheld := by split <;> decide
    exact fun h => absurd h this

/-- In amnesia, with one DRAFT. -/
def amnesiac : Device := { watching (inState .draft) with link := { quiet.link with feederId := 63, amnesia := true } }

theorem witness_lawful_amnesia : amnesiac.amnesiaLawful ∧ amnesiac.link.amnesia = true := by
  refine ⟨fun _ => ⟨?_, rfl⟩, rfl⟩
  decide +kernel

/-! ## States that meet the hypotheses of the statements, clause by clause -/

theorem witness_StepTakesFrontCommand :
    (State.mk quiet [.readDevice, .senseOutcome]).pending = .readDevice :: [.senseOutcome] := rfl

/-- A gap timer at its limit. -/
def gapAtLimit : Device := { linkAs (fun l => { l with rx := .sync1, gapFrom := some 0 }) with now := 8192 }

/-- Nothing due, with no work in hand and with some; one row due, and two; a row due beside work in hand; and a
state for each kind of row. -/
theorem witness_IdleStepRaisesDueRowOrPassesOneCycle :
    (waiting quiet).pending = [] ∧ quiet.due = [] ∧ quiet.held.closes = []
      ∧ midway.due = [] ∧ midway.held.closes ≠ [] ∧ gapAtLimit.due = [.gapTimerExpiry]
      ∧ 2 ≤ (Device.due { gapAtLimit with zones := (zoneAs fun y => { y with interval := some ⟨true, 8192⟩ }).zones
                                          }).length
      ∧ Device.due { gapAtLimit with held := midway.held } ≠ []
      ∧ Instr.slotDeadline 0xFFFF#16 ∈ Device.due { busy with now := 5000 }
      ∧ Instr.tripTimeout 1 ∈ Device.due (zoneAs fun y => { y with seq := .tripping, timer := some 0 })
      ∧ Instr.syncTimerExpiry ∈ Device.due { clockAs (fun c => { c with lock := .locked, ref := some 0 }) with
          now := 102400 }
      ∧ Instr.readDevice ∈ (portAs fun h => { h with state := .executing, cmd := [0x53#8] }).due := by
  decide

theorem witness_ExecutingEndsInResult :
    let p := portAs fun h => { h with state := .executing, cmd := [0x53#8] }
    p.port.state = .executing ∧ decodeCommand p.port.cmd = some .readDevice ∧ p.due = [.readDevice]
      ∧ p.held.closes = [] := by
  decide

def inLock (l : LockState) : Device :=
  clockAs fun c => { c with lock := l, ref := some 0, holdover := if l = .holdover then 1 else 0 }

theorem witness_lawful_locks : (inLock .locked).clock.lawful ∧ (inLock .holdover).clock.lawful := by
  unfold EpochClock.lawful ClockSettings.lawful
  decide

theorem witness_RowsThatDoNotApplyChangeNothing :
    quiet.link.gapFrom = none ∧ (linkAs fun l => { l with inChar := true }).link.inChar = true
      ∧ quiet.link.inChar = false ∧ (linkAs fun l => { l with lowAt := some 5 }).link.lowAt = some 5
      ∧ max quiet.now 5 ≤ 5
      ∧ quiet.clock.lock ≠ .locked ∧ quiet.clock.lock ≠ .holdover ∧ quiet.clock.lock ≠ .free
      ∧ ((inLock .locked).clock.runPeriod + (inLock .locked).clock.runGrace) * 4096 < max quiet.now 102401 - 0
      ∧ (inLock .holdover).clock.runPeriod * 4096 < max quiet.now 81921 - 0
      ∧ (∀ x ∈ busy.finishWork.slots, x.epoch ≠ 1#16) ∧ quiet.port.xfer ≠ .access ∧ quiet.port.xfer ≠ .write
      ∧ quiet.port.state ≠ .collecting ∧ quiet.port.state ≠ .result ∧ quiet.port.xfer ≠ .status
      ∧ quiet.port.csLow = false := by
  decide

theorem witness_ResetsLeaveTheStatedValues :
    Instr.rstNReset assumedPins = .powerOnReset assumedPins
      ∨ Instr.rstNReset assumedPins = .rstNReset assumedPins := by decide

/-- Odd with 62, the greatest strap value that is an identity; odd with 63; even with 17. -/
theorem witness_StrapsGiveFeederIdentity :
    resetHighPins ⟨62#6, false, 0#4, false⟩ % 2 = 1 ∧ resetHighPins ⟨63#6, true, 0#4, false⟩ % 2 = 1
      ∧ resetHighPins ⟨17#6, false, 0#4, false⟩ % 2 = 0 ∧ (∃ t, exec .readDevice State.reset = .next t)
      ∧ ¬ resetRow .readDevice ∧ ∀ b, Instr.readDevice ≠ .setFeederId b :=
  ⟨by decide, by decide, by decide, ⟨_, rfl⟩, fun h => h, fun _ h => Instr.noConfusion h⟩

theorem witness_ProfileTableKeepsWhatWasLoaded :
    (∃ t, exec (.setEpochNumber 7#16) (waiting busy) = .next t)
      ∧ (∃ t, exec .restartEvaluation (waiting busy) = .next t)
      ∧ ∃ t, exec (.readProfile 7#8) (waiting busy) = .next t :=
  ⟨⟨_, rfl⟩, ⟨_, rfl⟩, ⟨_, rfl⟩⟩

def receiving (rx : RxState) (len : Byte) (body : List Byte) : Device :=
  linkAs fun l => { l with rx := rx, lenByte := len, body := body, gapFrom := some 0, inChar := true }

/-- The lengths 0, 1, 32 and 33 at the edges of R55; a body one short of its end and at it. -/
theorem witness_ByteMovesFrameReceiver :
    (receiving .hunt 0#8 []).link.inChar = true ∧ (receiving .hunt 0#8 []).link.rx = .hunt ∧ (0x36#8 : Byte) ≠ 0xC9#8
      ∧ (1 ≤ (1#8 : Byte).toNat ∧ (32#8 : Byte).toNat ≤ 32)
      ∧ ((0#8 : Byte).toNat = 0 ∧ 32 < (33#8 : Byte).toNat)
      ∧ (receiving .body 3#8 [1#8]).link.body.length + 1 < 3
      ∧ (receiving .body 1#8 []).link.body.length + 1 = (receiving .body 1#8 []).link.lenByte.toNat := by
  decide

/-- A stop bit low in a frame and before one; a start bit with no gap timer running, at the limit itself and one
cycle beyond it; a line last low one cycle before. -/
theorem witness_FramingErrorsAndGapsAbandonFrames :
    (receiving .length 0#8 []).link.inChar = true ∧ (receiving .length 0#8 []).link.rx ≠ .sync1
      ∧ (receiving .hunt 0#8 []).link.rx = .hunt
      ∧ (let p := (linkAs fun l => { l with rx := .length, gapFrom := some 0, lowAt := some 8191 }).passTo 8192
        p.link.inChar = false ∧ p.link.lowAt = some 8191 ∧ 8191 < p.now ∧ p.link.gapFrom = some 0
          ∧ p.now ≤ 0 + 8192)
      ∧ (let p := (linkAs fun l => { l with rx := .sync1, gapFrom := some 0 }).passTo 8193
        p.link.inChar = false ∧ p.link.lowAt = none ∧ p.link.gapFrom = some 0 ∧ 0 + 8192 < p.now)
      ∧ (quiet.passTo 5).link.gapFrom = none ∧ (quiet.passTo 5).link.inChar = false := by
  decide

/-- A report frame of node 1 for epoch 0 with phase A alone: twelve bytes, the least length of a report. -/
def reportBody (feederId addrLow flags : Byte) : List Byte :=
  [0x01#8, feederId, 0x00#8, 0x00#8, addrLow, 0x00#8, 0x00#8, flags, 0x03#8, 0xE8#8, 0x00#8, 0x64#8]

/-- The received CRC that makes a frame good. -/
theorem goodCrc (bytes : List Byte) : crcOf bytes = hiByte (crcOf bytes) ++ loByte (crcOf bytes) := by
  generalize crcOf bytes = r
  apply BitVec.eq_of_getLsbD_eq
  intro k hk
  rw [BitVec.getLsbD_append]
  simp only [hiByte, loByte, BitVec.getLsbD_extractLsb']
  by_cases h : k < 8
  · simp [h]
  · have e : 8 + (k - 8) = k := by omega
    have e' : k - 8 < 8 := by omega
    simp [h, e, e']

/-- Each fate's frame: of another type, of a wrong length, foreign, unknown in and out of the filter, and of a
bound node with its phases and with others. Any of them is good under its own CRC, and bad under another. -/
theorem witness_FirstConditionDecidesFrame :
    (receiving .crcLow 12#8 []).link.rx = .crcLow ∧ (receiving .crcLow 12#8 []).link.inChar = true ∧ ([0x02#8] : List Byte).getD 0 0#8 ≠ 0x01#8
      ∧ (reportMalformed (reportBody 17#8 0x11#8 0x07#8) = true
        ∧ reportMalformed (reportBody 17#8 0x11#8 0x01#8) = false)
      ∧ (quiet.link.feederId = 17 ∧ ((reportBody 18#8 0x11#8 0x01#8).getD 1 0#8).toNat ≠ 17)
      ∧ bodyAddr (reportBody 17#8 0x55#8 0x01#8) &&& 0#24 = 0#24 &&& 0#24
      ∧ bodyAddr (reportBody 17#8 0x55#8 0x01#8) &&& 1#24 ≠ 0#24 &&& 1#24
      ∧ ((busy.nodes.get 1).bound = true
        ∧ (busy.nodes.get 1).addr = bodyAddr (reportBody 17#8 0x11#8 0x01#8))
      ∧ bodyPhases (reportBody 17#8 0x11#8 0x01#8) ≠ (busy.nodes.get 1).phases
      ∧ bodyPhases (reportBody 17#8 0x11#8 0x07#8) = (busy.nodes.get 1).phases := by
  decide

theorem witness_AdmittedReportIsClampedFrame :
    (0x07#8 : Byte).getLsbD 0 = true ∧ (0x07#8 : Byte).getLsbD 1 = true ∧ (0x07#8 : Byte).getLsbD 2 = true := by
  decide

def sighting (a : Addr) : Sighting := { addr := a, lastEpoch := 0#16, phases := abc, count := 255 }

def strangersAs (x y z : Option Sighting) : Device :=
  { quiet with strangers := ((quiet.strangers.set 0 x).set 1 y).set 2 z }

theorem witness_lawful_sighting : (strangersAs none (some (sighting 5#24)) none).strangersLawful := by
  refine ⟨by decide, ?_, ?_⟩
  · intro k g h
    have hk : k = 1 ∧ g = sighting 5#24 := by
      revert h
      fin_cases k <;> simp [strangersAs, Table.get_set, eq_comm]
    obtain ⟨_, rfl⟩ := hk
    refine ⟨by decide, by decide, ?_⟩
    intro n h'
    simp [strangersAs, quiet, State.reset, Device.afterReset, Node.unbound] at h'
  · intro k l g h hk hl _
    revert hk hl
    fin_cases k <;> fin_cases l <;> simp [strangersAs, Table.get_set]

/-- The slot that holds the address; the lowest empty slot; three slots full. -/
theorem witness_SightingIsPlacedByFirstCase :
    (strangersAs none (some (sighting 5#24)) none).strangers.get 1 = some (sighting 5#24)
      ∧ (strangersAs (some (sighting 1#24)) none none).strangers.get 1 = none
      ∧ (∀ j, j < 1 → (strangersAs (some (sighting 1#24)) none none).strangers.get j ≠ none)
      ∧ (∀ k, (strangersAs (some (sighting 1#24)) (some (sighting 2#24)) (some (sighting 3#24))).strangers.get k
        ≠ none) := by
  decide

theorem witness_NoReportIsHeardUnderFeederId63 : amnesiac.link.feederId = 63
    ∧ ∃ t, exec (.characterReceived 5 true 0xC9#8) (waiting amnesiac) = .next t := ⟨by decide, ⟨_, rfl⟩⟩

theorem witness_LinkAndStrangerCommandsAnswer : 5 < (6#8 : Byte).toNat ∧ (62#8 : Byte).toNat ≤ 62
    ∧ 63 ≤ (63#8 : Byte).toNat ∧ 3 ≤ (3#8 : Byte).toNat := by decide

/-- Delays at the limits of R72 and R73 under period 20 and grace 5, in cycles. -/
theorem witness_SyncPulseByLockState :
    (quiet.passTo 9).clock.lock = .acquiring
      ∧ ((clockAs fun c => { c with lock := .free }).passTo 9).clock.lock = .free
      ∧ ((inLock .locked).passTo 61440).clock.ref = some 0 ∧ ((inLock .holdover).passTo 81920).clock.ref = some 0
      ∧ (inLock .locked).clock.runPeriod = 20 ∧ (inLock .locked).clock.runGrace = 5
      ∧ ((inLock .locked).passTo 61439).now - 0 < (20 - 5) * 4096
      ∧ (20 - 5) * 4096 ≤ ((inLock .locked).passTo 61440).now - 0
      ∧ ((inLock .locked).passTo 102400).now - 0 ≤ (20 + 5) * 4096
      ∧ ((inLock .holdover).passTo 20480).now - 0 ≤ 5 * 4096
      ∧ 5 * 4096 < ((inLock .holdover).passTo 20481).now - 0
      ∧ ((inLock .holdover).passTo 81920).now - 0 ≤ 20 * 4096 := by
  decide

theorem witness_InternalTicksByLockState : (inLock .locked).clock.ref = some 0
    ∧ (inLock .locked).clock.lock = .locked ∧ (inLock .holdover).clock.lock = .holdover
    ∧ (inLock .free).clock.lock = .free := by decide

theorem witness_PulseAndTimerInEitherOrderMakeOneTick :
    (inLock .locked).clock.ref = some 0 ∧ (inLock .locked).now ≤ 102400 ∧ (inLock .holdover).now ≤ 81920
      ∧ 102400 = 0 + ((inLock .locked).clock.runPeriod + (inLock .locked).clock.runGrace) * 4096
      ∧ 81920 = 0 + (inLock .holdover).clock.runPeriod * 4096 := by decide

theorem witness_EpochNumberChangesOnlyAtTicks :
    (∃ t, exec .holdoverTick (waiting (inLock .holdover)) = .next t) ∧ ¬ resetRow .holdoverTick
      ∧ ∀ n, Instr.holdoverTick ≠ .setEpochNumber n :=
  ⟨⟨_, rfl⟩, fun h => h, fun _ h => Instr.noConfusion h⟩

def reportBy (n : NodeIx) : StoredReport :=
  { node := n, phases := abc, fault := false, motion := false, voltage := ⟨1000, 1000, 1000⟩,
    current := ⟨100, 100, 100⟩ }

/-- A COMPLETE slot of nodes 1 and 2. -/
def completed (e : Half) : Slot := { gathering e with complete := true, reports := [reportBy 1, reportBy 2] }

/-- Four slots open, the second COMPLETE. -/
def crowded : Device :=
  { watching armed with
    slots := [gathering 0xFFFD#16, completed 0xFFFE#16, gathering 0xFFFF#16, gathering 0#16] }

/-- One slot open, and no node expected any more. -/
def unexpecting : Device := { watching (inState .draft) with slots := [gathering 0#16] }

/-- Four slots open, and no node expected any more. -/
def crowdedUnexpecting : Device := { crowded with sections := unexpecting.sections }

/-- Four slots open, all but the oldest COMPLETE, and no node expected any more. -/
def spent : Device :=
  { unexpecting with
    slots := [gathering 0xFFFD#16, completed 0xFFFE#16, completed 0xFFFF#16, completed 0#16] }

/-- Section 4.6's example, the tick of epoch 504: 500 closes by force, then 504 opens, and all four slots are
open in the part that READ EPOCH CLOCK reads (R76). -/
theorem test_forced_close_example :
    let p : Device := { watching armed with
      clock := { quiet.clock with epoch := 503#16 }
      slots := [gathering 500#16, gathering 501#16, gathering 502#16, gathering 503#16] }
    (p.tick.held.closes.map Close.epoch, p.tick.slots.map Slot.epoch) = ([500#16], [501#16, 502#16, 503#16, 504#16])
      ∧ (resultOf (exec .readEpochClock (waiting p.tick))).drop 10 =
          [0x01#8, 0xF8#8, 0x00#8, 0x00#8, 0x00#8, 0x00#8, 0x00#8, 0x04#8] := by
  decide +kernel

/-- R83's bound: of five slots that one tick closes, four are held after it, the first being worked. -/
theorem test_five_closes_of_one_tick :
    (spent.tick.held.closes.map Close.epoch, spent.tick.slots) = ([0xFFFE#16, 0xFFFF#16, 0#16, 1#16], [])
      ∧ (spent.tick.nodes.get 1).miss = (spent.nodes.get 1).miss + 1 := by
  decide +kernel

theorem witness_lawful_report : crowded.reportLawful (reportBy 1) ∧ crowded.reportLawful (reportBy 2) := by
  refine ⟨⟨by decide, by decide, fun ph => ?_⟩, ⟨by decide, by decide, fun ph => ?_⟩⟩ <;> cases ph <;> decide

theorem witness_lawful_crowded : crowded.slotsLawful := by
  refine ⟨by decide, by decide, by decide, by decide, by decide, by decide, fun s hs rep hr => ?_, witness_lawful_rest⟩
  have h : rep = reportBy 1 ∨ rep = reportBy 2 := by
    rcases List.mem_cons.mp hs with rfl | hs
    · cases hr
    · rcases List.mem_cons.mp hs with rfl | hs
      · simpa [completed] using hr
      · simp [gathering] at hs
        rcases hs with rfl | rfl <;> cases hr
  exact h.elim (fun e => e ▸ witness_lawful_report.1) fun e => e ▸ witness_lawful_report.2

theorem witness_lawful_crowdedUnexpecting : crowdedUnexpecting.slotsLawful := witness_lawful_crowded

theorem witness_lawful_spent : spent.slotsLawful := by
  refine ⟨by decide, by decide, by decide, by decide, by decide, by decide, fun s hs rep hr => ?_, witness_lawful_rest⟩
  have h : rep = reportBy 1 ∨ rep = reportBy 2 := by
    simp [spent] at hs
    rcases hs with rfl | rfl | rfl | rfl
    · cases hr
    all_goals simpa [completed] using hr
  exact h.elim (fun e => e ▸ witness_lawful_report.1) fun e => e ▸ witness_lawful_report.2

theorem witness_lawful_unexpecting : unexpecting.slotsLawful := by
  refine ⟨by decide, by decide, by decide, by decide, by decide, by decide, by simp [unexpecting, gathering],
    witness_lawful_rest⟩

theorem witness_lawful_quiet : quiet.slotsLawful := by
  refine ⟨by decide, by decide, by decide, by decide, by decide, by decide, by simp [quiet, State.reset,
    Device.afterReset], witness_lawful_rest⟩

/-- Nodes expected and none; no slot open, one, two, and four, the cascade stopping at a GATHERING slot or at
none. -/
theorem witness_TickOpensSlotForWatchedNodes :
    (busy.held.closes = [] ∧ busy.slots.length < 4 ∧ busy.expectedSet ≠ [])
      ∧ (quiet.slots = [] ∧ quiet.expectedSet = [])
      ∧ (unexpecting.slots ≠ [] ∧ unexpecting.expectedSet = [])
      ∧ (crowded.slots.length = 4 ∧ crowded.slots = gathering 0xFFFD#16 :: ([completed 0xFFFE#16]
        ++ [gathering 0xFFFF#16, gathering 0#16]))
      ∧ crowded.expectedSet ≠ [] ∧ crowdedUnexpecting.expectedSet = []
      ∧ (spent.slots = gathering 0xFFFD#16 :: ([completed 0xFFFE#16, completed 0xFFFF#16, completed 0#16] ++ [])
        ∧ spent.expectedSet = []) := by
  refine ⟨⟨by decide, by decide, ?_⟩, ⟨by decide, by decide +kernel⟩, ⟨by decide, by decide +kernel⟩,
    ⟨by decide, by decide⟩, ?_, ?_, ⟨by decide, ?_⟩⟩ <;> decide +kernel

/-- Slots 65535 and 0 stand open; epoch 65534 is late by 2, and epoch 32768 is the first of the early half. -/
theorem witness_AdmittedReportIsStoredByFirstCase :
    busy.clock.epoch = 0#16 ∧ 32768 ≤ (0#16 - 32768#16 : Half).toNat
      ∧ (0#16 - 65534#16 : Half).toNat < 32768 ∧ (∀ s ∈ busy.slots, s.epoch ≠ 65534#16)
      ∧ (0#16 - 65535#16 : Half).toNat < 32768 ∧ busy.slots = [] ++ gathering 65535#16 :: [gathering 0#16]
      ∧ (reportBy 1).node ∉ (gathering 65535#16).arrived
      ∧ (reportBy 1).node ∈ Slot.arrived { gathering 0#16 with reports := [reportBy 1] }
      ∧ ¬ (gathering 0#16).expected ⊆ Slot.arrived { gathering 0#16 with reports := [reportBy 1] }
      ∧ (gathering 0#16).expected ⊆ Slot.arrived { gathering 0#16 with reports := [reportBy 1, reportBy 2] } := by
  decide

theorem witness_DeadlineClosesThroughItsSlot :
    busy.finishWork = busy ∧ busy.slots = [gathering 65535#16] ++ gathering 0#16 :: ([] ++ [])
      ∧ busy.slots = [] ++ gathering 65535#16 :: ([] ++ [gathering 0#16])
      ∧ crowded.slots = [] ++ gathering 0xFFFD#16 :: ([completed 0xFFFE#16] ++ [gathering 0xFFFF#16, gathering 0#16])
      ∧ (gathering 0#16).complete = false :=
  ⟨rfl, by decide, by decide, by decide, by decide⟩

/-- The Node Table's work to come, a record in the middle and the last record reached; no time, and some. -/
theorem witness_CloseIsWorkedInOrderPieceByPiece :
    midway.held.closes = ⟨0#16, [1, 2], []⟩ :: [] ∧ midway.held.reach = some 5 ∧ (5 : SecIx) < 127
      ∧ ({ midway.held with reach := none }).reach = none ∧ ({ midway.held with reach := some 127 }).reach = some 127
      ∧ 0 ≤ quiet.now ∧ quiet.now < 1 ∧ (quiet.sections.get 127).state = .vacant
      ∧ ((watching (confirmed .pending)).sections.get 0).state = .confirmed := by decide

theorem witness_EpochClockCommandsWriteAndRestart : 2 ≤ (2#8 : Byte).toNat
    ∧ quiet.clock.settings.source = .external
    ∧ (clockAs fun c => { c with settings := { c.settings with source := .internal } }).clock.settings.source
      = .internal
    ∧ (∀ z, (quiet.zones.get z).seq = .idle) ∧ ((zoneAs fun y => { y with seq := .hanging }).zones.get 1).seq ≠ .idle
    := by decide

theorem witness_BindAndUnbindNodeCheckThenAct : 64 ≤ (64#8 : Byte).toNat ∧ 7 < (8#8 : Byte).toNat
    ∧ (busy.nodes.get 1).bound = true ∧ (busy.nodes.get 63).bound = false
    ∧ (busy.nodes.get 1).addr = 0x11#24 ∧ (∀ m, (quiet.nodes.get m).bound = true → (quiet.nodes.get m).addr ≠ 5#24)
    ∧ 0 < (busy.nodes.get 1).refs
    ∧ (({ quiet with nodes := quiet.nodes.set 1 { feeder 9#24 with refs := 0 } } : Device).nodes.get 1).refs = 0
    := by decide

theorem witness_ReadNodeReturnsRecord : 64 ≤ (64#8 : Byte).toNat ∧ (busy.nodes.get 63).bound = false := by decide

theorem witness_CloseUpdatesNodeHealth :
    (busy.nodes.get 0).bound = false ∧ (busy.nodes.get 1).bound = true
      ∧ ([reportBy 1].map StoredReport.node).Nodup ∧ (∀ rep ∈ [reportBy 1], rep.node ≠ 2)
      ∧ (2 : NodeIx) ∈ (gathering 0#16).expected ∧ (2 : NodeIx) ∉ ([1] : List NodeIx) := by decide

/-- Section 127 VACANT and 0 not; node 1 bound and upstream already, node 3 bound and free, node 63 unbound. -/
theorem witness_CreateSectionChecksThenCreates :
    (false || false || true) = true ∧ (busy.sections.get 127).state = .vacant
      ∧ (busy.sections.get 0).state ≠ .vacant ∧ (busy.nodes.get 63).bound = false
      ∧ (busy.nodes.get 1).bound = true
      ∧ ((busy.sections.get 0).live ∧ (busy.sections.get 0).upstream = 1)
      ∧ (∀ j, (busy.sections.get j).state ≠ .vacant → (busy.sections.get j).upstream ≠ 2)
      ∧ PhaseSet.contains (busy.nodes.get 2).phases ⟨false, false, true⟩ = true
      ∧ PhaseSet.contains { abc with c := false } ⟨false, false, true⟩ = false := by
  unfold SectionRec.live
  decide

theorem witness_IndexChecksComeBeforeValueChecks : 128 ≤ (128#8 : Byte).toNat ∧ 64 ≤ (64#8 : Byte).toNat
    ∧ 8 ≤ (8#8 : Byte).toNat ∧ (127#8 : Byte).toNat < 128 ∧ (63#8 : Byte).toNat < 64 ∧ (7#8 : Byte).toNat < 8
    ∧ 4 ≤ (4#8 : Byte).toNat ∧ 7 < (8#8 : Byte).toNat
    ∧ (64 ≤ (254#8 : Byte).toNat ∧ (254#8 : Byte) ≠ 255#8) ∧ 6 ≤ (6#8 : Byte).toNat
    ∧ ((2#8 : Byte).toNat ≠ 3 ∧ 3 ≤ (3#8 : Byte).toNat) := by decide

/-- Section 0 a DRAFT between nodes 1 and 2, section 1 live with node 3 downstream; nodes 1 to 3 bound. -/
def drafting : Device :=
  { watching (inState .draft) with
    nodes := (watching (inState .draft)).nodes.set 3 (feeder 0x13#24)
    sections := (watching (inState .draft)).sections.set 1 { inState .armed with upstream := 4, downstream := [3] } }

/-- Node 2 passes every check; node 63 is unbound; node 3 is downstream of another section. -/
theorem witness_EditSectionChecksThenInstalls :
    (drafting.sections.get 0).state = .draft ∧ (drafting.sections.get 1).state ≠ .draft
      ∧ drafting.editFits 0 [] 2 ∧ ¬ drafting.editFits 0 [2] 63 ∧ ¬ drafting.editFits 0 [2] 2
      ∧ drafting.editFits 0 [2] 3 ∧ drafting.downstreamElsewhere 0 3 ∧ ¬ drafting.downstreamElsewhere 0 2
      ∧ [some (2 : NodeIx), none, some 3, none].filterMap id = [2] ++ 3 :: [] := by
  unfold Device.editFits Device.downstreamElsewhere SectionRec.live
  refine ⟨by decide, by decide, by decide, by decide, by decide, by decide, ⟨1, by decide⟩, ?_, by decide⟩
  decide +kernel

/-- Energized and not, with a named node STALE and with none; amnesia and not; and each admitted state. -/
theorem witness_CommitAndAcknowledgePlaceTheRecord :
    (drafting.sections.get 0).state = .draft ∧ drafting.link.amnesia = false
      ∧ (amnesiac.sections.get 0).state = .draft ∧ amnesiac.link.amnesia = true
      ∧ (busy.sections.get 0).state ≠ .draft ∧ drafting.energized 1 = true
      ∧ (zoneAs fun y => { y with stable := true }).energized 1 = false
      ∧ Health.bad .stale = true ∧ ((watching (confirmed .failed)).sections.get 0).mark = .failed
      ∧ ((watching (confirmed .pending)).sections.get 0).mark = .pending
      ∧ Profile.default.settleEpochs ≠ 0 ∧ { Profile.default with settleEpochs := 0 }.settleEpochs = 0 := by
  decide

theorem witness_RecallAndRetireReleaseTheRecord :
    ((watching (inState .dormant)).sections.get 0).state = .dormant
      ∧ ((watching (inState .draft)).sections.get 0).state = .draft
      ∧ ((watching (confirmed .pending)).sections.get 0).state = .confirmed
      ∧ ((watching (confirmed .pending)).sections.get 0).mark = .pending
      ∧ ((watching (confirmed .withheld)).sections.get 0).mark ≠ .pending
      ∧ (quiet.sections.get 127).state = .vacant := by decide

theorem witness_TuneSectionRewritesAndResettles :
    ((watching (inState .isolated)).sections.get 0).state = .isolated
      ∧ ((watching (inState .settling)).sections.get 0).state = .settling
      ∧ ((watching (inState .blind)).sections.get 0).state = .blind
      ∧ (armed.phases.a = true ∧ 32767 < (32768#16 : Half).toNat) ∧ ¬ 32767 < (32767#16 : Half).toNat := by decide

theorem witness_ReadSectionReturnsRecordByOffsets : (quiet.sections.get 127).state = .vacant
    ∧ (busy.sections.get 0).live ∧ (busy.sections.get 0).lawful :=
  ⟨by decide, by unfold SectionRec.live; decide, witness_lawful_record 0⟩

/-- SCAN from 0 for state 3 finds section 0; from 1 it finds none; code 3 is ANY NODE. -/
theorem witness_ScanSectionsFindsFirstMatch : (5#8 : Byte).toNat < 6 ∧ (3#8 : Byte).toNat = 3
    ∧ (2#8 : Byte).toNat < 3 ∧ (busy.sections.get 0).live ∧ (busy.sections.get 0).scanTest 0#8 0#8 3#8
    ∧ ∀ i, 1 ≤ i → ¬ (busy.sections.get i).live := by
  refine ⟨by decide, by decide, by decide, by unfold SectionRec.live; decide,
    show (busy.sections.get 0).state.code = 3 by decide, ?_⟩
  unfold SectionRec.live
  decide

theorem witness_ProfileCommandsClampThenOrderAndRead : 8 ≤ (8#8 : Byte).toNat ∧ 8 ≤ (255#8 : Byte).toNat := by decide

/-- Vu at LIVE_LEVEL 600 and one below it; residuals at -REVERSE_TOL (-50), one below, and at LEAK_MIN (15);
ratios 409 and 410 at OPEN_RATIO 410. -/
theorem witness_PhaseTestsMoveScores :
    599 < Profile.default.liveLevel ∧ Profile.default.liveLevel ≤ 600
      ∧ (((0 : Nat) : Int) - (([51] : List Nat).sum : Int) - ((0 : Nat) : Int) < -(Profile.default.reverseTol : Int))
      ∧ (-(Profile.default.reverseTol : Int) ≤ ((0 : Nat) : Int) - (([50] : List Nat).sum : Int) - ((0 : Nat) : Int))
      ∧ ((Profile.default.leakMin : Int) ≤ ((15 : Nat) : Int) - (([] : List Nat).sum : Int) - ((0 : Nat) : Int))
      ∧ (((14 : Nat) : Int) - (([] : List Nat).sum : Int) - ((0 : Nat) : Int) < (Profile.default.leakMin : Int))
      ∧ min 2047 (1024 * 240 / 600) < Profile.default.openRatio
      ∧ Profile.default.openRatio ≤ min 2047 (1024 * 241 / 600)
      ∧ (240 ∈ [240, 241] ∧ ∀ w ∈ [240, 241], 240 ≤ w) := by decide

def staled (r : SectionRec) : Device :=
  { watching r with nodes := (watching r).nodes.set 2 { feeder 0x12#24 with health := .stale } }

theorem witness_CloseMovesOrHoldsRecord :
    ((watching armed).sections.get 0).state = .armed ∧ (watching armed).energized 1 = true
      ∧ ((watching (inState .blind)).sections.get 0).state = .blind
      ∧ (staled armed).namesBad ((staled armed).sections.get 0) ∧ ¬ (watching armed).namesBad armed
      ∧ (∃ n ∈ armed.nodes, ∀ rep ∈ [reportBy 1], rep.node = n → rep.fault = true)
      ∧ ({ watching armed with zones := (zoneAs fun y => { y with stable := true }).zones }).energized 1 = false := by
  unfold Device.namesBad
  decide +kernel

theorem witness_CloseSettlesOrScoresRecord :
    ([reportBy 1, reportBy 2].map StoredReport.node).Nodup
      ∧ (∀ n ∈ armed.nodes, reportBy n ∈ [reportBy 1, reportBy 2] ∧ (reportBy n).node = n
        ∧ (reportBy n).fault = false)
      ∧ ((watching { inState .settling with settle := 1 }).sections.get 0).settle = 0 + 1
      ∧ ((watching (inState .suspect)).sections.get 0).state = .suspect
      ∧ (watching armed).energized 1 = true := by decide

/-- Open scores at T_open 12 and one below, leak scores at LEAK_TRIP 120, suspect levels 4 and 40, and 0. -/
theorem witness_DecisionTakesFirstStep :
    (armed.state = .armed ∧ (inState .suspect).state = .suspect)
      ∧ 12 ≤ (PerPhase.mk 11 12 12 : PerPhase Nat).get .b
      ∧ (∀ x, ¬ 12 ≤ (PerPhase.mk 11 11 11 : PerPhase Nat).get x)
      ∧ ((∀ x, (PerPhase.mk 11 12 12 : PerPhase Nat).get x ≤ (PerPhase.mk 11 12 12 : PerPhase Nat).get .b)
        ∧ ∀ x, Phase.code x < Phase.code .b →
          (PerPhase.mk 11 12 12 : PerPhase Nat).get x < (PerPhase.mk 11 12 12 : PerPhase Nat).get .b)
      ∧ (Hazard.elevated ≠ .normal ∧ 120 ≤ (PerPhase.mk 0 0 120 : PerPhase Nat).get .c)
      ∧ 4 ≤ (PerPhase.mk 4 0 0 : PerPhase Nat).get .a ∧ armed.scoresZero := by
  refine ⟨by decide, by decide, ?_, ⟨?_, ?_⟩, by decide, by decide, ?_⟩
  · intro x; cases x <;> decide
  · intro x; cases x <;> decide
  · intro x; cases x <;> decide
  · intro x; cases x <;> decide

theorem witness_TripRequestIsAnsweredByFirstCase :
    ((zoneAs fun y => { y with tripEnable := false }).zones.get 1).tripEnable = false
      ∧ (quiet.zones.get 1).tripEnable = true ∧ (quiet.zones.get 1).seq = .idle ∧ (quiet.zones.get 1).isOpen = false
      ∧ ((zoneAs fun y => { y with stable := true }).zones.get 1).isOpen = true
      ∧ ((zoneAs fun y => { y with seq := .tripping }).zones.get 1).seq = .tripping
      ∧ ((zoneAs fun y => { y with seq := .hanging }).zones.get 1).escalationEnable = true
      ∧ (armed.zone ≠ 0 ∧ SectionRec.vacant.zone = 0) ∧ (quiet.zones.get 0).tripEnable = true
      ∧ (quiet.zones.get 0).seq = .idle ∧ ([0] : List SecIx) ≠ [] := by decide

/-- A level already there and one that is new, stable and not, under a debounce and under none; an interval that
runs on, one at its end, and none; a trip timer before the interval's end, at it, and none. -/
theorem witness_BreakerLevelsAreDebounced :
    (quiet.zones.get 1).pin = false ∧ (quiet.zones.get 1).stable ≠ true ∧ (quiet.zones.get 1).debounce ≠ 0
      ∧ ((zoneAs fun y => { y with pin := true, interval := some ⟨true, 9⟩ }).zones.get 1).stable = false
      ∧ ((zoneAs fun y => { y with debounce := 0 }).zones.get 1).debounce = 0
      ∧ ((zoneAs fun y => { y with interval := some ⟨true, 9⟩ }).zones.get 1).interval = some ⟨true, 9⟩
      ∧ (quiet.zones.get 1).interval = none ∧ (quiet.zones.get 1).timer = none ∧ 4 ≤ 4
      ∧ true ≠ (((zoneAs fun y => { y with interval := some ⟨true, 9⟩ }).passTo 9).zones.get 1).stable
      ∧ (let y := (zoneAs fun y => { y with timer := some 8, interval := some ⟨true, 9⟩ }).zones.get 1
        y.timer = some 8 ∧ y.interval = some ⟨true, 9⟩)
      ∧ (let q := (((quiet.timerUpTo 1 5).intervalUpTo 1 5).passTo 5).zones.get 1
        q.stable ≠ true ∧ q.debounce ≠ 0) := by
  decide +kernel

/-- Section 0 CONFIRMED with mark PENDING in the list of TRIPPING zone 1. -/
def tripping : Device :=
  { watching (confirmed .pending) with
    zones := quiet.zones.set 1 ((quiet.zones.get 1).startTrip 0 [0] false) }

theorem witness_tripping_sections (i : SecIx) :
    tripping.sections.get i = if i = 0 then confirmed .pending else SectionRec.vacant := by
  simp [tripping, watching, quiet, State.reset, Device.afterReset, Table.get_set]

theorem witness_tripping_zones (z : ZoneIx) :
    tripping.zones.get z =
      if z = 1 then (Zone.afterReset false).startTrip 0 [0] false else Zone.afterReset false := by
  simp [tripping, quiet, State.reset, Device.afterReset, Table.get_set, assumedPins]

theorem witness_lawful_tripping : tripping.tripsLawful := by
  refine ⟨fun i => ?_, fun z => ?_, fun z => ?_, fun z i => ?_, fun i => ?_⟩
  · rw [witness_tripping_sections]
    split
    · refine ⟨by decide, fun _ => by decide, by simp [confirmed, SectionRec.latched],
        by simp [confirmed, SectionRec.latched], by decide, fun h => absurd h (by decide), by decide, by decide,
        by decide, ?_, ?_, ?_, by decide⟩
      · intro ph; cases ph <;> decide
      · intro ph; cases ph <;> decide
      · intro _ ph; cases ph <;> decide
    · have h := witness_lawful_record 1
      rw [witness_sections] at h
      exact h
  · rw [witness_tripping_zones]
    split <;> simp [Zone.lawful, Zone.startTrip, Zone.afterReset, Zone.isOpen]
  · rw [witness_tripping_zones]
    split <;> decide
  · rw [witness_tripping_sections, witness_tripping_zones]
    by_cases hi : i = 0 <;> by_cases hz : z = 1 <;>
      simp [hi, hz, Zone.startTrip, Zone.afterReset, confirmed, armed, SectionRec.vacant, SectionRec.tripZone,
        eq_comm]
  · rw [witness_tripping_sections]
    split <;> simp [confirmed, SectionRec.vacant]

/-- Section 0 CONFIRMED, and zone 1 busy with its breaker OPEN: TRIPPING with the section in its list, and HANGING
with the section's mark FAILED. -/
def edgeOf (m : TripMark) (seq : SeqState) (causes : List SecIx) : Device :=
  { watching (confirmed m) with
    zones := quiet.zones.set 1 { Zone.afterReset true with
      seq := seq, causes := causes, timer := if seq = .tripping then some 9 else none } }

theorem witness_edge_sections (m : TripMark) (seq : SeqState) (l : List SecIx) (i : SecIx) :
    (edgeOf m seq l).sections.get i = if i = 0 then confirmed m else SectionRec.vacant := by
  simp [edgeOf, watching, quiet, State.reset, Device.afterReset, Table.get_set]

theorem witness_edge_causes (m : TripMark) (seq : SeqState) (l : List SecIx) (z : ZoneIx) :
    ((edgeOf m seq l).zones.get z).causes = if z = 1 then l else [] := by
  by_cases h : z = 1 <;>
    simp [edgeOf, quiet, State.reset, Device.afterReset, Table.get_set, assumedPins, h, Zone.afterReset]

theorem witness_OpenEdgeMovesRecordsAndEndsTrip :
    (edgeOf .pending .tripping [0]).causesLawful ∧ (edgeOf .failed .hanging []).causesLawful
      ∧ ((edgeOf .pending .tripping [0]).zones.get 1).isOpen = true
      ∧ ((edgeOf .pending .tripping [0]).zones.get 1).seq = .tripping
      ∧ ((edgeOf .failed .hanging []).zones.get 1).isOpen = true
      ∧ ((edgeOf .failed .hanging []).zones.get 1).seq = .hanging := by
  refine ⟨⟨fun z => ?_, fun z i => ?_, fun i => ?_⟩, ⟨fun z => ?_, fun z i => ?_, fun i => ?_⟩, by decide, by decide,
    by decide, by decide⟩
  · rw [witness_edge_causes]
    split <;> decide
  · rw [witness_edge_sections, witness_edge_causes]
    by_cases hi : i = 0 <;> by_cases hz : z = 1 <;>
      simp [hi, hz, confirmed, armed, SectionRec.vacant, SectionRec.tripZone, eq_comm]
  · rw [witness_edge_sections]
    split <;> simp [confirmed, SectionRec.vacant]
  · rw [witness_edge_causes]
    split <;> decide
  · rw [witness_edge_sections, witness_edge_causes]
    by_cases hi : i = 0 <;> by_cases hz : z = 1 <;>
      simp [hi, hz, confirmed, armed, SectionRec.vacant, SectionRec.tripZone, eq_comm]
  · rw [witness_edge_sections]
    split <;> simp [confirmed, SectionRec.vacant]

theorem witness_CloseEdgeWakesDormantRecords :
    ((watching (inState .dormant)).sections.get 0).state = .dormant ∧ (watching (inState .dormant)).energized 1 = true
      ∧ (staled (inState .dormant)).namesBad ((staled (inState .dormant)).sections.get 0) := by
  unfold Device.namesBad
  decide

theorem witness_TripTimeoutFailsOrEscalates :
    (tripping.zones.get 1).seq = .tripping ∧ (tripping.zones.get 1).timer = some (200 * 4096)
      ∧ ((1 : ZoneIx) ≠ 0 ∧ (tripping.zones.get 1).escalationEnable = true ∧ (tripping.zones.get 1).causes ≠ [])
      ∧ (tripping.zones.get 0).seq ≠ .tripping ∧ ¬ ((0 : ZoneIx) ≠ 0) := by decide

theorem witness_ZoneCommandsWriteAndRead : 4 ≤ (4#8 : Byte).toNat ∧ 2 < (3#8 : Byte).toNat
    ∧ 1 < (2#8 : Byte).toNat ∧ (quiet.zones.get 3).tripEnable = true := by decide

theorem witness_TripCommandsAnswerBySequencer :
    4 ≤ (4#8 : Byte).toNat ∧ (quiet.zones.get 1).seq = .idle ∧ (tripping.zones.get 1).seq = .tripping
      ∧ ((zoneAs fun y => { y with seq := .hanging }).zones.get 1).seq = .hanging
      ∧ (∀ z, (quiet.zones.get z).latch = none)
      ∧ ((zoneAs fun y => { y with latch := some manualAlreadyOpen }).zones.get 1).latch = some manualAlreadyOpen
      ∧ ∀ w, w < 1 → ((zoneAs fun y => { y with latch := some manualAlreadyOpen }).zones.get w).latch = none := by
  decide

theorem witness_HoldAndAlertCommandsWriteFlags : 4 ≤ (4#8 : Byte).toNat ∧ 1 < (2#8 : Byte).toNat
    ∧ 64 ≤ (64#8 : Byte).toNat := by decide

theorem witness_LinesFollowTheirConditions : (3 : ZoneIx) ≠ 0 := by decide

/-- A code with no parameter, one with one, and one that names none; a command one byte short and at its last
byte; a result at its last byte and before it. -/
theorem witness_TransactionBytesMovePort :
    quiet.port.csLow = false ∧ quiet.port.state = .idle ∧ paramCount 0x1A#8 = none ∧ paramCount 0x13#8 = some 0
      ∧ paramCount 0x12#8 = some (0 + 1) ∧ paramCount 0x18#8 = some 18
      ∧ (portAs fun h => { h with xfer := .write, state := .collecting, cmd := [0x12#8] }).port.cmd = 0x12#8 :: []
      ∧ (List.replicate 16 0#8).length + 1 < 18 ∧ ([] : List Byte).length + 1 = 1
      ∧ 0 + 1 < ([0#8, 1#8] : List Byte).length ∧ 0 + 1 = ([0x80#8] : List Byte).length
      ∧ (portAs fun h => { h with xfer := .status, miso := some 0x83#8 }).port.miso = some 0x83#8 := by decide

theorem witness_StatusByteCarriesIndications :
    let p := { portAs (fun h => { h with state := .result, overrun := true }) with
      zones := (zoneAs fun y => { y with latch := some manualAlreadyOpen }).zones }
    p.port.state = .result ∧ p.outcomeFlag = true ∧ p.alerts.enables.outcome = true ∧ p.port.overrun = true
      ∧ p.link.amnesia = false ∧ p.port.abandoned = false := by decide

/-- A command answered with a byte on MISO that began before, and one at the very moment of the taking. -/
theorem witness_EveryHostCommandReturnsOneResult : hostCommand .senseOutcome
    ∧ hostCommand (.setEpochNumber 65535#16) ∧ reachesSlots (.unbindNode 64#8) ∧ ¬ reachesSlots .senseOutcome
    ∧ quiet.port.begun ≠ some quiet.now
    ∧ (portAs fun h => { h with state := .executing, xfer := .write, begun := some 0 }).port.begun = some quiet.now := by
  unfold hostCommand
  exact ⟨by decide, by decide, trivial, fun h => h, by decide, by decide⟩

theorem witness_CommandWordsReadAndWriteAgree :
    encodeCommand (.setEpochNumber 0xFF00#16) = some [0x16#8, 0xFF#8, 0x00#8]
      ∧ decodeCommand [0x16#8, 0xFF#8, 0x00#8] = some (.setEpochNumber 0xFF00#16)
      ∧ paramCount 0x16#8 = some 2 := by decide

/-- A latched record meets a row that moves others: its own acknowledgement is another index's. -/
theorem witness_LatchedRecordsKeepTheirEvidence :
    (∃ t, exec (.acknowledgeSection 127#8) (waiting tripping) = .next t) ∧ (tripping.sections.get 0).latched
      ∧ ¬ resetRow (.acknowledgeSection 127#8)
      ∧ ∀ b : Byte, b.toNat = (0 : SecIx).val →
        Instr.acknowledgeSection 127#8 ≠ .acknowledgeSection b ∧ Instr.acknowledgeSection 127#8 ≠ .retireSection b := by
  refine ⟨⟨_, rfl⟩, Or.inl (by decide), fun h => h, fun b h => ⟨fun e => ?_, fun e => Instr.noConfusion e⟩⟩
  injection e with e
  subst e
  revert h
  decide

theorem witness_EveryStepKeepsProfileClockLinkAndPortLaws : (∃ t, step (waiting busy) = .next t)
    ∧ busy.profilesLawful ∧ busy.clock.lawful ∧ busy.link.lawful ∧ busy.port.lawful :=
  ⟨⟨_, rfl⟩, witness_lawful_profiles, witness_lawful_clock, witness_lawful_link, witness_lawful_port⟩

theorem witness_EveryStepKeepsNodeTopologyAndSlotLaws :
    (∃ t, step ⟨busy, [.slotDeadline 0xFFFF#16]⟩ = .next t) ∧ busy.tripsLawful ∧ busy.nodesLawful
      ∧ busy.topologyLawful ∧ busy.strangersLawful ∧ busy.slotsLawful :=
  ⟨⟨_, rfl⟩, witness_lawful_trips, witness_lawful_nodes, witness_lawful_topology, witness_lawful_strangers,
    witness_lawful_slots⟩

theorem witness_EveryStepKeepsSectionAndTripLaws : (∃ t, step ⟨tripping, [.tripTimeout 1]⟩ = .next t)
    ∧ tripping.profilesLawful ∧ tripping.tripsLawful :=
  ⟨⟨_, rfl⟩, witness_lawful_profiles, witness_lawful_tripping⟩

theorem witness_amnesiac_sections (i : SecIx) :
    amnesiac.sections.get i = if i = 0 then inState .draft else SectionRec.vacant := by
  simp [amnesiac, watching, quiet, State.reset, Device.afterReset, Table.get_set]

theorem witness_EveryStepKeepsAmnesiaLaw : (∃ t, step ⟨amnesiac, [.syncPulse 9]⟩ = .next t)
    ∧ amnesiac.tripsLawful ∧ amnesiac.amnesiaLawful ∧ amnesiac.link.amnesia = true := by
  refine ⟨⟨_, rfl⟩, ⟨fun i => ?_, fun z => ?_, fun z => ?_, fun z i => ?_, fun i => ?_⟩, witness_lawful_amnesia⟩
  · rw [witness_amnesiac_sections]
    split
    · refine ⟨by decide, fun _ => by decide, by simp [inState, armed, SectionRec.vacant, SectionRec.latched],
        by simp [inState, armed, SectionRec.vacant, SectionRec.latched], by decide, fun h => absurd h (by decide),
        by decide, by decide, by decide, ?_, ?_, ?_, by decide⟩
      · intro ph; cases ph <;> decide
      · intro ph; cases ph <;> decide
      · intro _ ph; cases ph <;> decide
    · have h := witness_lawful_record 1
      rw [witness_sections] at h
      exact h
  · simp [amnesiac, watching, quiet, State.reset, Device.afterReset, Zone.lawful, Zone.afterReset]
  · simp [amnesiac, watching, quiet, State.reset, Device.afterReset, Zone.afterReset]
  · rw [witness_amnesiac_sections]
    have : (if i = 0 then inState .draft else SectionRec.vacant).state ≠ .confirmed := by split <;> decide
    simp [amnesiac, watching, quiet, State.reset, Device.afterReset, Zone.afterReset, this]
  · rw [witness_amnesiac_sections]
    have : (if i = 0 then inState .draft else SectionRec.vacant).mark ≠ .withheld := by split <;> decide
    exact fun h => absurd h this

end Sys2Proof.Tests
end

/-! ## What every row of the part's own keeps of a record

The laws of this family rest on the tables of nodes, sections, zones and profiles. Two relations between a part
and what a row makes of it carry them: `Device.Follows`, for the names and the evidence of the records, and
`Device.KeepsTrips` further on, for the trip laws. Both are closed under the same few shared operations, and
`EventLaw` derives from these what every row does that no command writing a table does. -/

namespace Sys2Proof.Machine

/-! ### Records -/

/-- R2: the fields of a record that say what it is about. -/
structure SectionRec.SameNames (r u : SectionRec) : Prop where
  upstream : u.upstream = r.upstream
  downstream : u.downstream = r.downstream
  zone : u.zone = r.zone
  phases : u.phases = r.phases

theorem SectionRec.SameNames.refl (r : SectionRec) : r.SameNames r := ⟨rfl, rfl, rfl, rfl⟩

theorem SectionRec.SameNames.trans {r u v : SectionRec} (h : r.SameNames u) (k : u.SameNames v) :
    r.SameNames v :=
  ⟨k.upstream.trans h.upstream, k.downstream.trans h.downstream, k.zone.trans h.zone, k.phases.trans h.phases⟩

theorem SectionRec.SameNames.nodes {r u : SectionRec} (h : r.SameNames u) : u.nodes = r.nodes := by
  rw [SectionRec.nodes, SectionRec.nodes, h.upstream, h.downstream]

/-- R3: what is kept of a latched record. -/
structure SectionRec.KeepsEvidence (r u : SectionRec) : Prop where
  latched : u.latched
  isolated : r.state = .isolated → u.state = .isolated
  fields : u = { r with state := u.state, settle := u.settle, mark := u.mark, escalated := u.escalated }

theorem SectionRec.KeepsEvidence.refl {r : SectionRec} (h : r.latched) : r.KeepsEvidence r := ⟨h, id, rfl⟩

theorem SectionRec.KeepsEvidence.trans {r u v : SectionRec} (h : r.KeepsEvidence u) (k : u.KeepsEvidence v) :
    r.KeepsEvidence v := by
  refine ⟨k.latched, fun e => k.isolated (h.isolated e), ?_⟩
  have hu := h.fields
  rw [k.fields]
  rw [hu]

/-- What closes, edges and timers keep of a record: what it names, its life and, once latched, its evidence. -/
structure SectionRec.Follows (r u : SectionRec) : Prop where
  names : r.SameNames u
  live : r.live → u.live
  evidence : r.latched → r.KeepsEvidence u

theorem SectionRec.Follows.refl (r : SectionRec) : r.Follows r :=
  ⟨.refl r, id, .refl⟩

theorem SectionRec.Follows.trans {r u v : SectionRec} (h : r.Follows u) (k : u.Follows v) : r.Follows v :=
  ⟨h.names.trans k.names, fun l => k.live (h.live l), fun l => (h.evidence l).trans (k.evidence (h.evidence l).latched)⟩

theorem SectionRec.latched.live {r : SectionRec} (h : r.latched) : r.live := by
  rcases h with h | h <;> simp [SectionRec.live, h]

/-- The states of R5 in which a record is neither VACANT nor latched. -/
def SectionRec.unlatched (r : SectionRec) : Prop := r.live ∧ ¬ r.latched

theorem SectionRec.unlatched_iff (r : SectionRec) :
    r.unlatched ↔ r.state ≠ .vacant ∧ r.state ≠ .confirmed ∧ r.state ≠ .isolated := by
  simp [SectionRec.unlatched, SectionRec.live, SectionRec.latched]

/-- A record that is not latched has no evidence to keep. -/
theorem SectionRec.Follows.of_names {r u : SectionRec} (hr : ¬ r.latched) (hu : u.live) (h : r.SameNames u) :
    r.Follows u := ⟨h, fun _ => hu, fun l => absurd l hr⟩

theorem SectionRec.isolate_follows (r : SectionRec) : r.Follows r.isolate :=
  ⟨⟨rfl, rfl, rfl, rfl⟩, fun _ => nofun, fun _ => ⟨.inr rfl, fun _ => rfl, rfl⟩⟩

theorem SectionRec.isolateEscalated_follows (r : SectionRec) : r.Follows r.isolateEscalated :=
  ⟨⟨rfl, rfl, rfl, rfl⟩, fun _ => nofun, fun _ => ⟨.inr rfl, fun _ => rfl, rfl⟩⟩

theorem SectionRec.withMark_follows (m : TripMark) (r : SectionRec) : r.Follows (r.withMark m) :=
  ⟨⟨rfl, rfl, rfl, rfl⟩, id, fun l => ⟨l, id, rfl⟩⟩

theorem SectionRec.joinEscalated_follows (r : SectionRec) : r.Follows r.joinEscalated :=
  ⟨⟨rfl, rfl, rfl, rfl⟩, id, fun l => ⟨l, id, rfl⟩⟩

/-- R6 to R8, R19: the entries into DRAFT, DORMANT, BLIND and SETTLING, the last under a profile of the table. -/
inductive SectionRec.Entered (profiles : Table Profile 8) (r : SectionRec) : SectionRec → Prop
  | draft : r.Entered profiles r.enterDraft
  | dormant : r.Entered profiles r.enterDormant
  | blind : r.Entered profiles r.enterBlind
  | settling (k : ProfIx) : r.Entered profiles (r.enterSettling (profiles.get k))

section
variable {profiles : Table Profile 8} {r u : SectionRec}

theorem SectionRec.Entered.names (h : r.Entered profiles u) : r.SameNames u := by
  cases h <;> exact ⟨rfl, rfl, rfl, rfl⟩

theorem SectionRec.Entered.unlatched (h : r.Entered profiles u) : u.unlatched := by
  rw [SectionRec.unlatched_iff]
  cases h with
  | draft => exact ⟨nofun, nofun, nofun⟩
  | dormant => exact ⟨nofun, nofun, nofun⟩
  | blind => exact ⟨nofun, nofun, nofun⟩
  | settling k => unfold SectionRec.enterSettling; dsimp only; split <;> exact ⟨nofun, nofun, nofun⟩

theorem SectionRec.Entered.follows (h : r.Entered profiles u) (hr : r.unlatched) : r.Follows u :=
  .of_names hr.2 h.unlatched.1 h.names

end

/-- R136: an open edge moves a record to DORMANT or leaves it. -/
theorem SectionRec.openEdge_cases (z : ZoneIx) (r : SectionRec) :
    r.openEdge z = r
      ∨ r.openEdge z = r.enterDormant ∧ (r.state = .armed ∨ r.state = .settling ∨ r.state = .blind) := by
  unfold SectionRec.openEdge
  split
  · split <;> simp [*]
  · exact .inl rfl

theorem SectionRec.openEdge_follows (z : ZoneIx) (r : SectionRec) : r.Follows (r.openEdge z) := by
  rcases r.openEdge_cases z with e | ⟨e, hs⟩
  · rw [e]; exact .refl r
  · rw [e]
    refine (SectionRec.Entered.dormant (profiles := .replicate 8 .default)).follows ?_
    rcases hs with h | h | h <;> simp [SectionRec.unlatched_iff, h]

/-- R86: a restart sends a record to SETTLING or leaves it. -/
theorem SectionRec.restart_cases (prof : Profile) (r : SectionRec) :
    r.restart prof = r
      ∨ r.restart prof = r.enterSettling prof ∧ (r.state = .armed ∨ r.state = .suspect ∨ r.state = .settling) := by
  unfold SectionRec.restart
  split <;> simp [*]

theorem SectionRec.restart_follows (prof : Profile) (r : SectionRec) : r.Follows (r.restart prof) := by
  rcases r.restart_cases prof with e | ⟨e, hs⟩
  · rw [e]; exact .refl r
  · rw [e]
    refine .of_names (fun l => ?_) ?_ ⟨rfl, rfl, rfl, rfl⟩
    · rcases hs with h | h | h <;> simp [SectionRec.latched, h] at l
    · dsimp only [SectionRec.live, SectionRec.enterSettling]; split <;> exact nofun

/-! ### Node records -/

/-- R33, R39, R41: what closes and a restart keep of a node record. -/
structure Node.Follows (r u : Node) : Prop where
  bound : u.bound = r.bound
  addr : u.addr = r.addr
  phases : u.phases = r.phases
  refs : u.refs = r.refs
  unbound : r = Node.unbound → u = Node.unbound
  miss : r.miss ≤ 255 → u.miss ≤ 255

theorem Node.Follows.refl (r : Node) : r.Follows r := ⟨rfl, rfl, rfl, rfl, id, id⟩

theorem Node.Follows.trans {r u v : Node} (h : r.Follows u) (k : u.Follows v) : r.Follows v :=
  ⟨k.bound.trans h.bound, k.addr.trans h.addr, k.phases.trans h.phases, k.refs.trans h.refs,
    fun e => k.unbound (h.unbound e), fun e => k.miss (h.miss e)⟩

theorem Node.afterClose_unbound (c : Close) (limit : Nat) (n : NodeIx) {r : Node} (h : r.bound = false) :
    r.afterClose c limit n = r := by
  simp [Node.afterClose, h]

theorem Node.afterClose_follows (c : Close) (limit : Nat) (n : NodeIx) (r : Node) :
    r.Follows (Node.afterClose c limit n r) := by
  cases hb : r.bound with
  | false => rw [Node.afterClose_unbound c limit n hb]; exact .refl r
  | true =>
    have hu : r ≠ Node.unbound := by rintro rfl; cases hb
    simp only [Node.afterClose, hb, if_true]
    split
    · exact ⟨hb.symm, rfl, rfl, rfl, fun e => absurd e hu, fun _ => Nat.zero_le _⟩
    · split
      · exact ⟨hb.symm, rfl, rfl, rfl, fun e => absurd e hu, fun _ => Nat.min_le_left _ _⟩
      · exact .refl r

theorem Node.restart_follows (r : Node) : r.Follows r.restart := by
  unfold Node.restart
  split
  · rename_i hb
    exact ⟨rfl, rfl, rfl, rfl, fun e => absurd hb (by rw [e]; decide), fun _ => Nat.zero_le _⟩
  · exact .refl r

/-! ### The part -/

/-- No cause list names a VACANT record. -/
def Device.causesLive (p : Device) : Prop := ∀ z, ∀ i ∈ (p.zones.get z).causes, (p.sections.get i).live

/-- What closes, edges and timers keep of the tables; a VACANT record stays so as long as no cause list names
it. -/
structure Device.Follows (p q : Device) : Prop where
  records : ∀ i, (p.sections.get i).Follows (q.sections.get i)
  causes : p.causesLive → q.causesLive
  vacant : p.causesLive → ∀ i, (q.sections.get i).live → (p.sections.get i).live
  nodes : ∀ n, (p.nodes.get n).Follows (q.nodes.get n)

theorem Device.Follows.refl (p : Device) : p.Follows p :=
  ⟨fun _ => .refl _, id, fun _ _ => id, fun _ => .refl _⟩

theorem Device.Follows.trans {p q r : Device} (h : p.Follows q) (k : q.Follows r) : p.Follows r :=
  ⟨fun i => (h.records i).trans (k.records i), fun l => k.causes (h.causes l),
    fun l i e => h.vacant l i (k.vacant (h.causes l) i e), fun n => (h.nodes n).trans (k.nodes n)⟩

/-- Cause lists stay live when no record that they name goes and no list names more. -/
theorem Device.causesLive_of_records {p q : Device}
    (hs : ∀ i, (p.sections.get i).live → (q.sections.get i).live)
    (hz : ∀ z, (q.zones.get z).causes = (p.zones.get z).causes) (h : p.causesLive) : q.causesLive :=
  fun z i hi => hs i (h z i (by rwa [hz] at hi))

/-- A part that has the same records and node records, and whose cause lists are live. -/
theorem Device.Follows.of_tables {o p q : Device} (h : o.Follows p) (hs : q.sections = p.sections)
    (hn : q.nodes = p.nodes)
    (hz : o.causesLive → ∀ z, ∀ i ∈ (q.zones.get z).causes, (p.sections.get i).live) : o.Follows q :=
  ⟨fun i => by rw [hs]; exact h.records i, fun l z i hi => by rw [hs]; exact hz l z i hi,
    fun l i k => h.vacant l i (by rwa [hs] at k), fun n => by rw [hn]; exact h.nodes n⟩

/-- A zone written: its cause list must be live. -/
theorem Device.Follows.setZone {o p : Device} (h : o.Follows p) {z : ZoneIx} {y : Zone}
    (hy : o.causesLive → ∀ i ∈ y.causes, (p.sections.get i).live) : o.Follows (p.setZone z y) := by
  refine h.of_tables rfl rfl fun l w i hi => ?_
  rw [Device.setZone_zones, Table.get_set] at hi
  split at hi
  · exact hy l i hi
  · exact h.causes l w i hi

/-- A zone written with its cause list kept, or emptied. -/
theorem Device.Follows.setZone_of_causes {o p : Device} (h : o.Follows p) {z : ZoneIx} {y : Zone}
    (hy : y.causes = (p.zones.get z).causes ∨ y.causes = []) : o.Follows (p.setZone z y) := by
  refine h.setZone fun l i hi => ?_
  rcases hy with e | e
  · exact h.causes l z i (by rwa [e] at hi)
  · rw [e] at hi; cases hi

theorem Device.Follows.latchOutcome {o p : Device} (h : o.Follows p) (z : ZoneIx) (r : OutcomeRec) :
    o.Follows (p.latchOutcome z r) := h.setZone_of_causes (.inl rfl)

theorem Device.Follows.setSectionFlag {o p : Device} (h : o.Follows p) : o.Follows p.setSectionFlag :=
  h.of_tables rfl rfl h.causes

theorem Device.Follows.sectionFlagIf {o p : Device} (h : o.Follows p) (b : Bool) :
    o.Follows (p.sectionFlagIf b) := by
  cases b
  · exact h
  · exact h.setSectionFlag

/-- Every record changed by a function that leaves a VACANT one. -/
theorem Device.Follows.mapSections {o p : Device} (h : o.Follows p) {f : SecIx → SectionRec → SectionRec}
    (hf : ∀ i (r : SectionRec), r.Follows (f i r))
    (hv : o.causesLive → ∀ i, (f i (p.sections.get i)).live → (p.sections.get i).live) :
    o.Follows (p.mapSections f) := by
  have hs : ∀ i, (p.mapSections f).sections.get i = f i (p.sections.get i) := fun i => by simp
  exact ⟨fun i => by rw [hs]; exact (h.records i).trans (hf i _),
    fun l => Device.causesLive_of_records (p := p) (fun i k => by rw [hs]; exact (hf i _).live k) (fun _ => rfl) (h.causes l),
    fun l i k => h.vacant l i (hv l i (by rwa [hs] at k)), h.nodes⟩

/-- Listed records changed by a function: the list must be live. -/
theorem Device.Follows.mapListed {o p : Device} (h : o.Follows p) {l : List SecIx} {f : SectionRec → SectionRec}
    (hf : ∀ r : SectionRec, r.Follows (f r)) (hl : o.causesLive → ∀ i ∈ l, (p.sections.get i).live) :
    o.Follows (p.mapListed l f) := by
  refine h.mapSections (fun i r => ?_) fun k i e => ?_
  · split
    · exact hf r
    · exact .refl r
  · split at e
    · exact hl k i ‹_›
    · exact e

/-- One live record written. -/
theorem Device.Follows.setSection {o p : Device} (h : o.Follows p) {i : SecIx} {r : SectionRec}
    (hr : (p.sections.get i).Follows r) (hl : (p.sections.get i).live) : o.Follows (p.setSection i r) := by
  have hs : ∀ j, (p.sections.get j).Follows ((p.setSection i r).sections.get j) := fun j => by
    rw [Device.setSection_sections, Table.get_set]
    split
    · rename_i e; rw [e]; exact hr
    · exact .refl _
  refine ⟨fun j => (h.records j).trans (hs j),
    fun l => Device.causesLive_of_records (fun j => (hs j).live) (fun _ => rfl) (h.causes l),
    fun l j k => h.vacant l j ?_, h.nodes⟩
  rw [Device.setSection_sections, Table.get_set] at k
  split at k
  · rename_i e; rw [e]; exact hl
  · exact k

/-- A fold keeps what each of its steps keeps. -/
theorem Device.Follows.foldl {α : Type} {f : Device → α → Device} (hf : ∀ (q : Device) (a : α), q.Follows (f q a)) (l : List α)
    (p : Device) : p.Follows (l.foldl f p) := by
  induction l generalizing p with
  | nil => exact .refl p
  | cons a l ih => exact (hf p a).trans (ih (f p a))

/-! ### Trips and edges -/

/-- R142: an escalation of live records. -/
theorem Device.Follows.escalate {o p : Device} (h : o.Follows p) {l : List SecIx}
    (hl : o.causesLive → ∀ i ∈ l, (p.sections.get i).live) : o.Follows (p.escalate l) := by
  have failed : o.Follows (p.mapListed l (SectionRec.withMark .failed)) :=
    h.mapListed (SectionRec.withMark_follows .failed) hl
  have joined : o.Follows (p.mapListed l SectionRec.joinEscalated) :=
    h.mapListed SectionRec.joinEscalated_follows hl
  have live : ∀ i, (p.sections.get i).live → ((p.mapListed l SectionRec.joinEscalated).sections.get i).live :=
    fun i k => by
      rw [Device.mapListed_sections, Table.get_mapIdx]
      split
      · exact (SectionRec.joinEscalated_follows _).live k
      · exact k
  unfold Device.escalate
  split
  · split
    · refine joined.setZone fun k i hi => live i ?_
      rcases List.mem_append.mp hi with hi | hi
      · exact h.causes k 0 i hi
      · exact hl k i hi
    · split
      · exact (h.mapListed SectionRec.isolateEscalated_follows hl).latchOutcome 0 _
      · exact joined.setZone fun k i hi => live i (hl k i hi)
    · exact failed
  · exact failed

/-- R141: the answer to a live record's trip request. -/
theorem Device.Follows.tripRequest {o p : Device} (h : o.Follows p) {i : SecIx} (hi : (p.sections.get i).live) :
    o.Follows (p.tripRequest i) := by
  have marked : ∀ m, o.Follows (p.setSection i ((p.sections.get i).withMark m)) := fun m =>
    h.setSection (SectionRec.withMark_follows m _) hi
  have live : ∀ j m, (p.sections.get j).live →
      ((p.setSection i ((p.sections.get i).withMark m)).sections.get j).live := fun j m k => by
    rw [Device.setSection_sections, Table.get_set]
    split
    · exact hi
    · exact k
  unfold Device.tripRequest
  dsimp only
  split
  · split
    · split
      · exact (h.setSection (SectionRec.isolate_follows _) hi).latchOutcome _ _
      · refine (marked .pending).setZone fun _ j hj => live j _ ?_
        rw [List.mem_singleton.mp hj]; exact hi
    · refine (marked .pending).setZone fun k j hj => live j _ ?_
      rcases List.mem_append.mp hj with hj | hj
      · exact h.causes k _ j hj
      · rw [List.mem_singleton.mp hj]; exact hi
    · split
      · exact h.escalate fun _ j hj => by rw [List.mem_singleton.mp hj]; exact hi
      · exact marked .failed
  · exact marked .withheld

/-- R136, R145, R148: an open edge. -/
theorem Device.openEdge_follows (p : Device) (z : ZoneIx) : p.Follows (p.openEdge z) := by
  have h : p.Follows (p.mapSections fun _ r => r.openEdge z) := by
    refine (Device.Follows.refl p).mapSections (fun _ r => r.openEdge_follows z) fun _ i k => ?_
    rcases (p.sections.get i).openEdge_cases z with e | ⟨-, hs⟩
    · rwa [e] at k
    · rcases hs with hs | hs | hs <;> simp [SectionRec.live, hs]
  unfold Device.openEdge
  dsimp only
  split
  · exact h
  · exact ((h.mapListed SectionRec.isolate_follows fun k i hi => h.causes k z i hi).latchOutcome z _).setZone_of_causes
      (.inr rfl)
  · refine ((h.mapListed SectionRec.isolate_follows fun _ i hi => ?_).latchOutcome z _).setZone_of_causes (.inr rfl)
    simp only [Device.failedIn, List.mem_filter, Bool.and_eq_true, beq_iff_eq] at hi
    exact SectionRec.latched.live (.inl hi.2.1.1)

/-- R8: the placement test writes one record, and nothing of the zones. -/
theorem Device.placeEnergized_cases (p : Device) (i : SecIx) (r : SectionRec) :
    ∃ u b, r.Entered p.profiles u ∧ p.placeEnergized i r = (p.setSection i u).sectionFlagIf b := by
  unfold Device.placeEnergized
  split
  · exact ⟨_, true, .blind, rfl⟩
  · exact ⟨_, false, .settling _, rfl⟩

theorem Device.place_cases (p : Device) (i : SecIx) (r : SectionRec) :
    ∃ u b, r.Entered p.profiles u ∧ p.place i r = (p.setSection i u).sectionFlagIf b := by
  unfold Device.place
  split
  · exact p.placeEnergized_cases i r
  · exact ⟨_, false, .dormant, rfl⟩

/-- R137: a close edge places a DORMANT record or leaves it. -/
theorem Device.closeEdgeRecord_cases (z : ZoneIx) (p : Device) (i : SecIx) :
    Device.closeEdgeRecord z p i = p
      ∨ (p.sections.get i).state = .dormant ∧ ∃ u b, (p.sections.get i).Entered p.profiles u
        ∧ Device.closeEdgeRecord z p i = (p.setSection i u).sectionFlagIf b := by
  unfold Device.closeEdgeRecord
  split
  · rename_i h
    exact .inr ⟨h.1, p.placeEnergized_cases i _⟩
  · exact .inl rfl

/-- R137: a close edge. -/
theorem Device.closeEdge_follows (p : Device) (z : ZoneIx) : p.Follows (p.closeEdge z) := by
  refine Device.Follows.foldl (fun q i => ?_) _ p
  rcases Device.closeEdgeRecord_cases z q i with e | ⟨hd, u, b, hr, e⟩
  · rw [e]; exact .refl q
  · have hu : (q.sections.get i).unlatched := by simp [SectionRec.unlatched_iff, hd]
    rw [e]
    exact ((Device.Follows.refl q).setSection (hr.follows hu) hu.1).sectionFlagIf b

theorem Device.afterBreaker_follows (p : Device) (z : ZoneIx) (wasOpen : Bool) :
    p.Follows (p.afterBreaker z wasOpen) := by
  unfold Device.afterBreaker
  repeat' split
  · exact .refl p
  · exact p.openEdge_follows z
  · exact p.closeEdge_follows z

theorem Device.becomeStable_follows (p : Device) (z : ZoneIx) (level : Bool) : p.Follows (p.becomeStable z level) :=
  
  ((Device.Follows.refl p).setZone_of_causes (y := { p.zones.get z with stable := level, interval := none })
    (.inl rfl)).trans (Device.afterBreaker_follows _ z _)

/-- R146, R147: a timeout. -/
theorem Device.timeout_follows (p : Device) (z : ZoneIx) : p.Follows (p.timeout z) := by
  have h : p.Follows p := .refl p
  unfold Device.timeout
  dsimp only
  split
  · exact ((h.latchOutcome z _).setZone_of_causes (.inr rfl)).escalate fun k i hi => k z i hi
  · exact ((h.latchOutcome z _).setZone_of_causes (.inr rfl)).mapListed (SectionRec.withMark_follows .failed)
      fun k i hi => k z i hi

/-- R143: the requests that a trip enable releases. -/
theorem Device.releaseWithheld_follows (p : Device) (z : ZoneIx) : p.Follows (p.releaseWithheld z) := by
  refine Device.Follows.foldl (fun q i => ?_) _ p
  unfold Device.releaseRecord
  split
  · rename_i h
    exact (Device.Follows.refl q).tripRequest (SectionRec.latched.live (.inl h.1))
  · exact .refl q

/-- R131: the settings of a zone. -/
theorem Device.applyZone_follows (p : Device) (z : ZoneIx) (c : ZoneSettings) : p.Follows (p.applyZone z c) := by
  have h := ((Device.Follows.refl p).setZone_of_causes (z := z) (y := (p.zones.get z).withSettings c) (.inl rfl)).trans
    (Device.afterBreaker_follows _ z (p.zones.get z).isOpen)
  unfold Device.applyZone
  dsimp only
  split
  · exact h.trans (Device.releaseWithheld_follows _ z)
  · exact h

/-! ### The work of a close -/

/-- R41 to R43: the Node Table's work. -/
theorem Device.nodeWork_follows (c : Close) (p : Device) : p.Follows (p.nodeWork c) := by
  obtain ⟨-, -, hs, hz, hn⟩ := p.nodeWork_kept c
  refine ⟨fun i => by rw [hs]; exact .refl _, Device.causesLive_of_records (fun i k => by rwa [hs]) fun z => by rw [hz],
    fun _ i k => by rwa [hs] at k, fun n => ?_⟩
  rw [hn, Table.get_mapIdx]
  exact Node.afterClose_follows c _ n _

/-- R95, R98 to R100: what the phase results of a close make of an ARMED or SUSPECT record; the phases that it
does not have are skipped. -/
inductive SectionRec.Scored (r : SectionRec) : SectionRec → Prop
  | scored (prof : Profile) (motion : Bool) (epoch : Half) (res : PerPhase PhaseResult)
      (hs : r.state = .armed ∨ r.state = .suspect)
      (hp : ∀ ph, r.phases.get ph = false → res.get ph = .skipped) :
      r.Scored ((r.markInconsistent res).applyScores prof motion epoch res)

/-- R44, R45, R102 to R108: what the work of a close makes of a record that it does not confirm. -/
inductive SectionRec.Worked (profiles : Table Profile 8) (r : SectionRec) : SectionRec → Prop
  | entered {u : SectionRec} (hr : r.unlatched) (h : r.Entered profiles u) : r.Worked profiles u
  | settled (res : PerPhase PhaseResult) (hs : r.state = .settling) :
      r.Worked profiles ((r.markInconsistent res).settleDown res)
  | scored {u : SectionRec} (h : r.Scored u) (s : SecState) (hs : s = .armed ∨ s = .suspect) :
      r.Worked profiles { u with state := s }

section
variable {profiles : Table Profile 8} {r u : SectionRec}

theorem SectionRec.Scored.names (h : r.Scored u) : r.SameNames u := by
  cases h; exact ⟨rfl, rfl, rfl, rfl⟩

theorem SectionRec.Scored.state (h : r.Scored u) : u.state = r.state ∧ (r.state = .armed ∨ r.state = .suspect) := by
  cases h; exact ⟨rfl, by assumption⟩

theorem SectionRec.Scored.unlatched (h : r.Scored u) : r.unlatched := by
  rw [SectionRec.unlatched_iff]
  rcases h.state.2 with e | e <;> simp [e]

theorem SectionRec.Worked.unlatched (h : r.Worked profiles u) : r.unlatched := by
  cases h with
  | entered hr h => exact hr
  | settled res hs => simp [SectionRec.unlatched_iff, hs]
  | scored h s hs => exact h.unlatched

theorem SectionRec.Worked.names (h : r.Worked profiles u) : r.SameNames u := by
  cases h with
  | entered hr h => exact h.names
  | settled res hs => unfold SectionRec.settleDown; split <;> exact ⟨rfl, rfl, rfl, rfl⟩
  | scored h s hs => exact h.names.trans ⟨rfl, rfl, rfl, rfl⟩

/-- The state that settling leaves: ARMED or SETTLING (R102, R103). -/
theorem SectionRec.settleDown_state (res : PerPhase PhaseResult) (h : r.state = .settling) :
    (r.settleDown res).state = .armed ∨ (r.settleDown res).state = .settling := by
  unfold SectionRec.settleDown
  split
  · dsimp only; split <;> simp
  · exact .inr h

theorem SectionRec.Worked.left (h : r.Worked profiles u) : u.unlatched := by
  cases h with
  | entered hr h => exact h.unlatched
  | settled res hs =>
    rw [SectionRec.unlatched_iff]
    rcases SectionRec.settleDown_state (r := r.markInconsistent res) res hs with e | e <;> simp [e]
  | scored h s hs => rw [SectionRec.unlatched_iff]; rcases hs with rfl | rfl <;> simp

end

theorem Device.sectionFlagIf_setSection (p : Device) (b : Bool) (i : SecIx) (r : SectionRec) :
    (p.sectionFlagIf b).setSection i r = (p.setSection i r).sectionFlagIf b := by cases b <;> rfl

@[simp] theorem Device.sectionFlagIf_sections (p : Device) (b : Bool) : (p.sectionFlagIf b).sections = p.sections := by
  cases b <;> rfl
@[simp] theorem Device.sectionFlagIf_zones (p : Device) (b : Bool) : (p.sectionFlagIf b).zones = p.zones := by
  cases b <;> rfl
@[simp] theorem Device.sectionFlagIf_profiles (p : Device) (b : Bool) : (p.sectionFlagIf b).profiles = p.profiles := by
  cases b <;> rfl
@[simp] theorem Device.sectionFlagIf_nodes (p : Device) (b : Bool) : (p.sectionFlagIf b).nodes = p.nodes := by
  cases b <;> rfl

/-- R29, R89: what the work of a close on record `i` makes of the part: nothing, one record written, or the
record confirmed and its trip request answered; each with the SECTION flag set or left. -/
inductive Device.RecordWorked (p : Device) (i : SecIx) : Device → Prop
  | left : p.RecordWorked i p
  | written {u : SectionRec} (b : Bool) (h : (p.sections.get i).Worked p.profiles u) :
      p.RecordWorked i ((p.setSection i u).sectionFlagIf b)
  | confirmed {u : SectionRec} (cause : Cause) (e : Half) (h : (p.sections.get i).Scored u) :
      p.RecordWorked i (((p.setSection i (u.confirm cause e)).setSectionFlag).tripRequest i)

/-- R104 to R111: what the decision does to a record whose scores have changed. -/
theorem Device.carryOut_worked (p : Device) (i : SecIx) (b : Bool) (e : Half) {u : SectionRec}
    (h : (p.sections.get i).Scored u) : p.RecordWorked i ((p.sectionFlagIf b).carryOut i e u) := by
  obtain ⟨hu, hs⟩ := h.state
  unfold Device.carryOut
  simp only [Device.sectionFlagIf_setSection]
  split
  · rename_i cause _
    have twice : ∀ q : Device, (q.sectionFlagIf b).setSectionFlag = q.setSectionFlag := by intro q; cases b <;> rfl
    rw [twice]
    exact .confirmed cause e h
  · have twice : ∀ q : Device, ∀ b', (q.sectionFlagIf b).sectionFlagIf b' = q.sectionFlagIf (b || b') := by
      intro q b'; cases b <;> cases b' <;> rfl
    rw [twice]
    exact .written _ (.scored h _ (.inr rfl))
  · exact .written _ (.scored h _ (.inl rfl))
  · exact .written (u := { u with state := u.state }) _ (.scored h _ (by rwa [hu]))

/-- R90 to R111: the evaluation of a record in SETTLING, ARMED or SUSPECT. -/
theorem Device.evaluate_worked (c : Close) (p : Device) (i : SecIx)
    (hi : (p.sections.get i).state = .settling ∨ (p.sections.get i).state = .armed
      ∨ (p.sections.get i).state = .suspect) : p.RecordWorked i (p.evaluate c i) := by
  unfold Device.evaluate
  dsimp only
  split
  · split
    · rw [Device.sectionFlagIf_setSection]
      exact .written _ (.settled _ ‹_›)
    · exact p.carryOut_worked i _ _
        (.scored _ _ _ _ (hi.resolve_left ‹_›) fun ph h => by simp [phaseResults, h])
  · exact .left

/-- R44: a watched record parked or evaluated. -/
theorem Device.parkOrEvaluate_worked (c : Close) (p : Device) (i : SecIx)
    (hi : (p.sections.get i).state = .settling ∨ (p.sections.get i).state = .armed) :
    p.RecordWorked i (p.parkOrEvaluate c i) := by
  have hu : (p.sections.get i).unlatched := by
    rw [SectionRec.unlatched_iff]; rcases hi with e | e <;> simp [e]
  unfold Device.parkOrEvaluate
  dsimp only
  split
  · split
    · exact .written true (.entered hu .blind)
    · exact p.evaluate_worked c i (hi.imp_right .inl)
  · exact .written false (.entered hu .dormant)

/-- R29, R89: the work of one close on one record. -/
theorem Device.recordWork_worked (c : Close) (p : Device) (i : SecIx) : p.RecordWorked i (p.recordWork c i) := by
  unfold Device.recordWork
  split
  · exact p.parkOrEvaluate_worked c i (.inr ‹_›)
  · exact p.parkOrEvaluate_worked c i (.inl ‹_›)
  · exact p.evaluate_worked c i (.inr (.inr ‹_›))
  · unfold Device.recover
    dsimp only
    split
    · exact .written false (.entered (by simp [SectionRec.unlatched_iff, *]) (.settling _))
    · exact .left
  all_goals exact .left

theorem Device.RecordWorked.follows {p q : Device} {i : SecIx} (hw : p.RecordWorked i q) : p.Follows q := by
  have h : p.Follows p := .refl p
  cases hw with
  | left => exact h
  | written b k => exact (h.setSection (.of_names k.unlatched.2 k.left.1 k.names) k.unlatched.1).sectionFlagIf b
  | @confirmed u cause e k =>
    have live : (u.confirm cause e).live := nofun
    have names : (p.sections.get i).SameNames (u.confirm cause e) := k.names.trans ⟨rfl, rfl, rfl, rfl⟩
    refine (h.setSection (.of_names k.unlatched.2 live names) k.unlatched.1).setSectionFlag.tripRequest ?_
    rwa [Device.setSectionFlag_sections, Device.setSection_sections, Table.get_set_self]

end Sys2Proof.Machine

/-! ## What every row does that no command writing a table does

A relation between a part and what becomes of it, closed under the few operations that move the tables, holds
between the part before and after every row but those by which the host or a reset writes a table. -/

namespace Sys2Proof.Machine

/-- What of a zone the laws of the trip sequencers speak of (R137, R139, R140, R143). -/
structure Zone.SameSequencer (y u : Zone) : Prop where
  seq : u.seq = y.seq
  causes : u.causes = y.causes
  manual : u.manual = y.manual
  timer : u.timer = y.timer
  tripEnable : u.tripEnable = y.tripEnable
  isOpen : u.isOpen = y.isOpen

theorem Zone.SameSequencer.refl (y : Zone) : y.SameSequencer y := ⟨rfl, rfl, rfl, rfl, rfl, rfl⟩

/-- The tables stand, but for what no law says of a zone. -/
structure Device.SameTables (p q : Device) : Prop where
  sections : q.sections = p.sections
  zones : ∀ z, (p.zones.get z).SameSequencer (q.zones.get z)
  nodes : q.nodes = p.nodes
  profiles : q.profiles = p.profiles

/-- The slots, the work in hand, the Stranger Slots and the epoch number stand. -/
structure Device.SameSlots (p q : Device) : Prop where
  slots : q.slots = p.slots
  held : q.held = p.held
  strangers : q.strangers = p.strangers
  overwrites : q.overwrites = p.overwrites
  epoch : q.clock.epoch = p.clock.epoch

/-- All four tables stand as they were. -/
theorem Device.SameTables.of_eq {p q : Device} (hs : q.sections = p.sections) (hz : q.zones = p.zones)
    (hn : q.nodes = p.nodes) (hp : q.profiles = p.profiles) : p.SameTables q :=
  ⟨hs, fun z => by rw [hz]; exact .refl _, hn, hp⟩

/-- One zone written, with nothing that a law speaks of changed. -/
theorem Device.setZone_sameTables {p : Device} {z : ZoneIx} {y : Zone} (h : (p.zones.get z).SameSequencer y) :
    p.SameTables (p.setZone z y) := by
  refine ⟨rfl, fun w => ?_, rfl, rfl⟩
  rw [Device.setZone_zones, Table.get_set]
  split
  · rename_i e; rw [e]; exact h
  · exact .refl _

/-! ### Relations that the work on closes keeps -/

/-- A relation that the work on closes keeps, and that rests on the tables alone. -/
structure WorkLaw (R : Device → Device → Prop) : Prop where
  refl : ∀ p, R p p
  trans : ∀ {p q r}, R p q → R q r → R p r
  frame : ∀ {p q}, p.SameTables q → R p q
  nodeWork : ∀ c p, R p (Device.nodeWork c p)
  recordWork : ∀ c p i, R p (Device.recordWork c p i)

namespace WorkLaw

variable {R : Device → Device → Prop}

theorem records (L : WorkLaw R) (c : Close) (l : List SecIx) (p : Device) :
    R p (l.foldl (Device.recordWork c) p) := by
  induction l generalizing p with
  | nil => exact L.refl p
  | cons i l ih => exact L.trans (L.recordWork c p i) (ih _)

theorem workClose (L : WorkLaw R) (p : Device) (c : Close) : R p (p.workClose c) :=
  L.trans (L.nodeWork c p) (L.records c _ _)

theorem workCloses (L : WorkLaw R) (cs : List Close) (p : Device) : R p (p.workCloses cs) := by
  induction cs generalizing p with
  | nil => exact L.refl p
  | cons c cs ih => rw [Device.workCloses_cons]; exact L.trans (L.workClose p c) (ih _)

theorem finishClose (L : WorkLaw R) (p : Device) (c : Close) : R p (p.finishClose c) := by
  unfold Device.finishClose
  split
  · exact L.workClose p c
  · exact L.records c _ p

/-- The work in hand recorded as other work, or more slots: no table moves. -/
theorem of_eq (L : WorkLaw R) {p q r : Device} (h : R p q) (hs : r.sections = q.sections) (hz : r.zones = q.zones)
    (hn : r.nodes = q.nodes) (hp : r.profiles = q.profiles) : R p r :=
  L.trans h (L.frame (.of_eq hs hz hn hp))

theorem finishWork (L : WorkLaw R) (p : Device) : R p p.finishWork := by
  unfold Device.finishWork
  split
  · exact L.refl p
  · refine L.trans ?_ (L.workCloses _ _)
    exact L.of_eq (L.finishClose p _) rfl rfl rfl rfl

theorem makeRoom (L : WorkLaw R) (p : Device) : R p p.makeRoom := by
  unfold Device.makeRoom
  split
  · split
    · exact L.of_eq (L.finishClose p _) rfl rfl rfl rfl
    · exact L.refl p
  · exact L.refl p

theorem workPiece (L : WorkLaw R) (p : Device) : R p p.workPiece := by
  unfold Device.workPiece
  split
  · unfold Device.closePiece
    split
    · exact L.of_eq (L.nodeWork _ p) rfl rfl rfl rfl
    · exact L.of_eq (L.recordWork _ p _) rfl rfl rfl rfl
  · exact L.refl p

theorem openSlot (L : WorkLaw R) (p : Device) (d : Moment) : R p (p.openSlot d) := by
  unfold Device.openSlot
  dsimp only
  split
  · exact L.of_eq (L.makeRoom p) rfl rfl rfl rfl
  · exact L.of_eq (L.refl p) rfl rfl rfl rfl

theorem takeTick (L : WorkLaw R) (p : Device) : R p p.takeTick := by
  unfold Device.takeTick
  dsimp only
  split
  · refine L.trans ?_ (L.openSlot _ _)
    exact L.of_eq (L.refl p) rfl rfl rfl rfl
  · exact L.openSlot p _

theorem tick (L : WorkLaw R) (p : Device) : R p p.tick := by
  refine L.trans ?_ (L.takeTick _)
  exact L.of_eq (L.finishWork p) rfl rfl rfl rfl

theorem passTo (L : WorkLaw R) (p : Device) (t : Moment) : R p (p.passTo t) := by
  unfold Device.passTo
  split
  · exact L.of_eq (L.finishWork p) rfl rfl rfl rfl
  · exact L.refl p

theorem storeReport (L : WorkLaw R) (p : Device) (e : Half) (rep : StoredReport) : R p (p.storeReport e rep) := by
  have h := L.finishWork p
  unfold Device.storeReport Device.takeReport
  split
  · exact L.of_eq h rfl rfl rfl rfl
  · split
    · exact L.of_eq h rfl rfl rfl rfl
    · split
      · exact L.of_eq h rfl rfl rfl rfl
      · exact L.of_eq h rfl rfl rfl rfl

theorem slotDeadline (L : WorkLaw R) (p : Device) (e : Half) : R p (p.slotDeadline e) := by
  unfold Device.slotDeadline
  dsimp only
  split
  · exact L.of_eq (L.trans (L.finishWork p) (L.passTo _ _)) rfl rfl rfl rfl
  · exact L.refl p

end WorkLaw

theorem Device.sight_sameTables (p : Device) (a : Addr) (e : Half) (s : PhaseSet) : p.SameTables (p.sight a e s) := by
  unfold Device.sight
  dsimp only
  split
  · exact .of_eq rfl rfl rfl rfl
  · split <;> exact .of_eq rfl rfl rfl rfl

/-! ### Relations that every event keeps -/

/-- A relation kept by the operations to which every row comes down that does not write a table. -/
structure EventLaw (R : Device → Device → Prop) : Prop where
  refl : ∀ p, R p p
  trans : ∀ {p q r}, R p q → R q r → R p r
  frame : ∀ {p q}, p.SameTables q → p.SameSlots q → R p q
  finishWork : ∀ p, R p p.finishWork
  workPiece : ∀ p, R p p.workPiece
  tick : ∀ p, R p p.tick
  renumber : ∀ p n, R p (p.finishWork.freeSlots.withClock fun c => { c with epoch := n })
  slotDeadline : ∀ p e, R p (p.slotDeadline e)
  admission : ∀ p body n, p.nodeOf (bodyAddr body) = some n → bodyPhases body = (p.nodes.get n).phases →
    R p (p.storeReport (bodyEpoch body) (admitted body n))
  sight : ∀ p a e s, p.nodeOf a = none → PhaseSet.count s ≠ 0 → R p (p.sight a e s)
  becomeStable : ∀ p z level, R p (p.becomeStable z level)
  timeout : ∀ p z, (p.zones.get z).seq = .tripping → R p (p.timeout z)

/-- A relation that rests on the tables alone needs only the work, the edges and the timeouts. -/
theorem WorkLaw.eventLaw {R : Device → Device → Prop} (L : WorkLaw R)
    (becomeStable : ∀ p z level, R p (Device.becomeStable p z level))
    (timeout : ∀ p z, (p.zones.get z).seq = .tripping → R p (p.timeout z)) : EventLaw R where
  refl := L.refl
  trans := L.trans
  frame h _ := L.frame h
  finishWork := L.finishWork
  workPiece := L.workPiece
  tick := L.tick
  renumber p _ := L.of_eq (L.finishWork p) rfl rfl rfl rfl
  slotDeadline := L.slotDeadline
  admission p _ _ _ _ := L.storeReport p _ _
  sight p a e s _ _ := L.frame (p.sight_sameTables a e s)
  becomeStable := becomeStable
  timeout := timeout

/-! ### TRIPPING zones through the work on closes -/

/-- A TRIPPING zone stays so. -/
def Device.StaysTripping (p q : Device) : Prop :=
  ∀ z, (p.zones.get z).seq = .tripping → (q.zones.get z).seq = .tripping

theorem Device.StaysTripping.refl (p : Device) : p.StaysTripping p := fun _ => id

theorem Device.StaysTripping.of_zones {p q : Device} (h : q.zones = p.zones) : p.StaysTripping q :=
  fun z e => by rwa [h]

theorem Device.setZone_staysTripping {p : Device} {z : ZoneIx} {y : Zone}
    (h : (p.zones.get z).seq = .tripping → y.seq = .tripping) : p.StaysTripping (p.setZone z y) := fun w e => by
  rw [Device.setZone_zones, Table.get_set]
  split
  · rename_i k; exact h (by rwa [k] at e)
  · exact e

theorem Device.escalate_staysTripping (p : Device) (l : List SecIx) : p.StaysTripping (p.escalate l) := by
  unfold Device.escalate
  split
  · split
    · exact Device.setZone_staysTripping (p := p.mapListed l _) id
    · split
      · exact Device.setZone_staysTripping (p := p.mapListed l _) id
      · exact Device.setZone_staysTripping (p := p.mapListed l _) fun _ => rfl
    · exact .of_zones rfl
  · exact .of_zones rfl

theorem Device.tripRequest_staysTripping (p : Device) (i : SecIx) : p.StaysTripping (p.tripRequest i) := by
  unfold Device.tripRequest
  dsimp only
  split
  · split
    · split
      · exact Device.setZone_staysTripping (p := p.setSection i _) id
      · exact Device.setZone_staysTripping (p := p.setSection i _) fun _ => rfl
    · exact Device.setZone_staysTripping (p := p.setSection i _) id
    · split
      · exact p.escalate_staysTripping [i]
      · exact .of_zones rfl
  · exact .of_zones rfl

theorem Device.StaysTripping.workLaw : WorkLaw Device.StaysTripping where
  refl := .refl
  trans h k z e := k z (h z e)
  frame h z e := by rw [(h.zones z).seq]; exact e
  nodeWork c p := .of_zones (p.nodeWork_kept c).2.2.2.1
  recordWork c p i := by
    have hw := p.recordWork_worked c i
    generalize p.recordWork c i = q at hw
    cases hw with
    | left => exact .refl p
    | written b h => exact .of_zones (by rw [Device.sectionFlagIf_zones]; rfl)
    | confirmed cause e h => exact Device.tripRequest_staysTripping (((p.setSection i _)).setSectionFlag) i

/-! ### Every row that writes no table -/

/-- The rows by which a reset or the host writes a table. -/
def writesTable : Instr → Prop
  | .powerOnReset _ => True
  | .rstNReset _ => True
  | .restartEvaluation => True
  | .loadProfile .. => True
  | .bindNode .. => True
  | .unbindNode _ => True
  | .clearStranger _ => True
  | .createSection .. => True
  | .editSection .. => True
  | .commitSection _ => True
  | .recallSection _ => True
  | .tuneSection .. => True
  | .acknowledgeSection _ => True
  | .retireSection _ => True
  | .setZone .. => True
  | .tripZone _ => True
  | .releaseTrip _ => True
  | _ => False

namespace EventLaw

variable {R : Device → Device → Prop}

/-- Nothing changed but what no table and no slot holds. -/
theorem of_eq (L : EventLaw R) {p q : Device} (hs : q.sections = p.sections) (hz : q.zones = p.zones)
    (hn : q.nodes = p.nodes) (hp : q.profiles = p.profiles) (h : p.SameSlots q) : R p q :=
  L.frame (.of_eq hs hz hn hp) h

theorem passTo (L : EventLaw R) (p : Device) (t : Moment) : R p (p.passTo t) := by
  unfold Device.passTo
  split
  · exact L.trans (L.finishWork p) (L.of_eq rfl rfl rfl rfl ⟨rfl, rfl, rfl, rfl, rfl⟩)
  · exact L.refl p

/-- R173: a command taken moves the port alone. -/
theorem taken (L : EventLaw R) {p : Device} (a : Answer) (h : R p a.1) : R p (Device.taken a) := by
  refine L.trans h ?_
  unfold Device.taken
  dsimp only
  split <;> exact L.of_eq rfl rfl rfl rfl ⟨rfl, rfl, rfl, rfl, rfl⟩

theorem withLink (L : EventLaw R) (p : Device) (f : LinkReceiver → LinkReceiver) : R p (p.withLink f) :=
  L.of_eq rfl rfl rfl rfl ⟨rfl, rfl, rfl, rfl, rfl⟩

theorem withPort (L : EventLaw R) (p : Device) (f : HostPort → HostPort) : R p (p.withPort f) :=
  L.of_eq rfl rfl rfl rfl ⟨rfl, rfl, rfl, rfl, rfl⟩

theorem withCounters (L : EventLaw R) (p : Device) (f : LinkCounters → LinkCounters) : R p (p.withCounters f) :=
  L.of_eq rfl rfl rfl rfl ⟨rfl, rfl, rfl, rfl, rfl⟩

theorem countLinkError (L : EventLaw R) (p : Device) (f : LinkCounters → LinkCounters) : R p (p.countLinkError f) :=
  L.of_eq rfl rfl rfl rfl ⟨rfl, rfl, rfl, rfl, rfl⟩

theorem withClock (L : EventLaw R) (p : Device) {f : EpochClock → EpochClock}
    (h : (f p.clock).epoch = p.clock.epoch) : R p (p.withClock f) :=
  L.of_eq rfl rfl rfl rfl ⟨rfl, rfl, rfl, rfl, h⟩

/-! Characters (R52 to R62) -/

theorem checkFrame (L : EventLaw R) (p : Device) (len : Byte) (body : List Byte) (crc : Half) :
    R p (p.checkFrame len body crc) := by
  unfold Device.checkFrame
  split
  · exact L.countLinkError p _
  · split
    · exact L.withCounters p _
    · split
      · exact L.countLinkError p _
      · rename_i hm
        split
        · exact L.withCounters p _
        · split
          · rename_i hn
            split
            · refine L.sight p _ _ _ hn fun e => hm ?_
              simp [reportMalformed, e]
            · exact L.withCounters p _
          · rename_i n hn
            split
            · exact L.countLinkError p _
            · exact L.admission p body n hn (not_not.mp ‹_›)

theorem abandonFrame (L : EventLaw R) (p : Device) (f : LinkCounters → LinkCounters) : R p (p.abandonFrame f) :=
  L.trans (L.withLink p _) (L.countLinkError _ f)

theorem rxByte (L : EventLaw R) (p : Device) (b : Byte) : R p (p.rxByte b) := by
  unfold Device.rxByte
  split
  · split
    · exact L.withLink p _
    · exact L.refl p
  · split
    · exact L.withLink p _
    · split <;> exact L.withLink p _
  · unfold Device.lengthByte
    split
    · exact L.withLink p _
    · exact L.abandonFrame p _
  · exact L.withLink p _
  · exact L.withLink p _
  · exact L.trans (L.withLink p _) (L.checkFrame _ _ _ _)

theorem framingError (L : EventLaw R) (p : Device) : R p p.framingError := by
  unfold Device.framingError
  split
  · exact L.abandonFrame p _
  · exact L.withLink p _

theorem characterReceived (L : EventLaw R) (p : Device) (stopHigh : Bool) (b : Byte) :
    R p (p.characterReceived stopHigh b) := by
  unfold Device.characterReceived
  split
  · dsimp only
    split
    · exact L.trans (L.withLink p _) (L.rxByte _ b)
    · exact L.trans (L.withLink p _) (L.framingError _)
  · exact L.refl p

theorem gapExpire (L : EventLaw R) (p : Device) : R p p.gapExpire := by
  unfold Device.gapExpire
  split
  · exact L.abandonFrame p _
  · exact L.withLink p _

theorem startBit (L : EventLaw R) (p : Device) : R p p.startBit := by
  unfold Device.startBit
  split
  · refine L.trans ?_ (L.withLink _ _)
    split
    · exact L.gapExpire p
    · exact L.refl p
  · exact L.refl p

theorem gapTimerExpiry (L : EventLaw R) (p : Device) : R p p.gapTimerExpiry := by
  unfold Device.gapTimerExpiry
  split
  · exact L.trans (L.passTo p _) (L.gapExpire _)
  · exact L.refl p

/-! Ticks (R71 to R75) -/

theorem clockTick (L : EventLaw R) (p : Device) {f : EpochClock → EpochClock}
    (h : (f p.clock).epoch = p.clock.epoch) : R p (p.withClock f).tick :=
  L.trans (L.withClock p h) (L.tick _)

theorem syncPulse (L : EventLaw R) (p : Device) : R p p.syncPulse := by
  unfold Device.syncPulse
  split
  · exact L.clockTick p rfl
  · unfold Device.pulseLocked
    split
    · exact L.withClock p rfl
    · split
      · exact L.clockTick p rfl
      · exact L.refl p
  · unfold Device.pulseHoldover
    split
    · exact L.withClock p rfl
    · split
      · exact L.withClock p rfl
      · split
        · exact L.clockTick p rfl
        · exact L.refl p
  all_goals exact L.refl p

theorem checkSyncLost (L : EventLaw R) (p : Device) : R p p.checkSyncLost := by
  unfold Device.checkSyncLost
  split
  · exact L.of_eq rfl rfl rfl rfl ⟨rfl, rfl, rfl, rfl, rfl⟩
  · exact L.refl p

theorem enterHoldover (L : EventLaw R) (p : Device) : R p p.enterHoldover := by
  refine L.trans ?_ (L.trans (L.checkSyncLost _) (L.tick _))
  exact L.of_eq rfl rfl rfl rfl ⟨rfl, rfl, rfl, rfl, rfl⟩

theorem holdoverTick (L : EventLaw R) (p : Device) : R p p.holdoverTick := by
  refine L.trans ?_ (L.trans (L.checkSyncLost _) (L.tick _))
  exact L.withClock p rfl

/-! Breakers (R133, R146, R147) -/

theorem tripTimeout (L : EventLaw R) (p : Device) (z : ZoneIx) : R p (p.tripTimeout z) := by
  unfold Device.tripTimeout
  split
  · exact L.trans (L.passTo p _) (L.timeout _ z (Device.StaysTripping.workLaw.passTo p _ z ‹_›))
  · exact L.refl p

theorem debounceExpiry (L : EventLaw R) (p : Device) (z : ZoneIx) : R p (p.debounceExpiry z) := by
  unfold Device.debounceExpiry
  split
  · exact L.trans (L.passTo p _) (L.becomeStable _ z _)
  · exact L.refl p

theorem setZone (L : EventLaw R) (p : Device) {z : ZoneIx} {y : Zone} (h : (p.zones.get z).SameSequencer y) :
    R p (p.setZone z y) :=
  L.frame (Device.setZone_sameTables h) ⟨rfl, rfl, rfl, rfl, rfl⟩

theorem changeLevel (L : EventLaw R) (p : Device) (z : ZoneIx) (high : Bool) : R p (p.changeLevel z high) := by
  have pin : ∀ d, R p (p.setZone z { p.zones.get z with pin := high, interval := d }) := fun d =>
    L.setZone p ⟨rfl, rfl, rfl, rfl, rfl, rfl⟩
  unfold Device.changeLevel
  dsimp only
  split
  · exact pin none
  · split
    · exact L.trans (pin none) (L.becomeStable _ z high)
    · refine L.trans (pin none) (L.setZone _ ?_)
      rw [Device.setZone_zones, Table.get_set_self]
      exact ⟨rfl, rfl, rfl, rfl, rfl, rfl⟩

theorem brkLevelChange (L : EventLaw R) (p : Device) (t : Moment) (z : ZoneIx) (high : Bool) :
    R p (p.brkLevelChange t z high) := by
  have timer : ∀ t, R p (p.timerUpTo z t) := fun t => by
    unfold Device.timerUpTo
    split
    · split
      · exact L.tripTimeout p z
      · exact L.refl p
    · exact L.refl p
  have interval : ∀ (q : Device) t, R q (q.intervalUpTo z t) := fun q t => by
    unfold Device.intervalUpTo
    split
    · split
      · exact L.debounceExpiry q z
      · exact L.refl q
    · exact L.refl q
  unfold Device.brkLevelChange
  split
  · exact L.passTo p t
  · exact L.trans (timer _) (L.trans (interval _ _) (L.trans (L.passTo _ t) (L.changeLevel _ z high)))

/-! The port (R168 to R179) -/

theorem beginStatus (L : EventLaw R) (p : Device) : R p p.beginStatus := L.withPort p _

theorem accessByte (L : EventLaw R) (p : Device) (b : Byte) : R p (p.accessByte b) := by
  have kind := L.withPort p fun h => { h with xfer := h.accessKind b }
  unfold Device.accessByte
  split
  · dsimp only
    split
    · exact L.trans kind (L.beginStatus _)
    · exact L.trans kind (L.beginStatus _)
    · exact L.trans kind (L.withPort _ _)
    · exact L.trans kind (L.withPort _ _)
    · exact L.trans kind (L.withPort _ _)
    · exact kind
    · exact kind
  · exact L.refl p

theorem codeByte (L : EventLaw R) (p : Device) (b : Byte) : R p (p.codeByte b) := by
  unfold Device.codeByte
  split
  · exact L.trans (L.withPort p _) (L.beginStatus _)
  · exact L.refl p

theorem parameterByte (L : EventLaw R) (p : Device) (b : Byte) : R p (p.parameterByte b) := by
  unfold Device.parameterByte
  split
  · exact L.trans (L.withPort p _) (L.beginStatus _)
  · exact L.refl p

theorem overrunByte (L : EventLaw R) (p : Device) (b : Byte) : R p (p.overrunByte b) := by
  unfold Device.overrunByte
  split
  · exact L.trans (L.withPort p _) (L.beginStatus _)
  · exact L.refl p

theorem resultByteRead (L : EventLaw R) (p : Device) : R p p.resultByteRead := by
  unfold Device.resultByteRead
  split
  · exact L.trans (L.withPort p _) (L.withPort _ _)
  · exact L.refl p

theorem statusByteRead (L : EventLaw R) (p : Device) : R p p.statusByteRead := by
  unfold Device.statusByteRead
  split
  · exact L.trans (L.withPort p _) (L.beginStatus _)
  · exact L.refl p

theorem transactionStart (L : EventLaw R) (p : Device) : R p p.transactionStart := by
  unfold Device.transactionStart
  split
  · exact L.refl p
  · exact L.trans (L.withPort p _) (L.beginStatus _)

theorem transactionEnd (L : EventLaw R) (p : Device) : R p p.transactionEnd := by
  unfold Device.transactionEnd
  split
  · split <;> exact L.withPort p _
  · exact L.refl p

/-! Host commands that write no table -/

theorem setEpochClock (L : EventLaw R) (p : Device) (src per gr : Byte) (lim win : Half) (miss : Byte) :
    R p (p.setEpochClock src per gr lim win miss).1 := by
  unfold Device.setEpochClock
  split
  · exact L.refl p
  · dsimp only [Device.accept_fst]
    refine L.withClock p ?_
    unfold EpochClock.apply
    dsimp only
    split
    · rfl
    · split <;> rfl

theorem senseOutcome (L : EventLaw R) (p : Device) : R p p.senseOutcome.1 := by
  unfold Device.senseOutcome
  split
  · exact L.refl p
  · exact L.setZone p ⟨rfl, rfl, rfl, rfl, rfl, rfl⟩

theorem holdPermit (L : EventLaw R) (p : Device) (zone hold : Byte) : R p (p.holdPermit zone hold).1 := by
  unfold Device.holdPermit
  split
  · exact L.refl p
  · split
    · exact L.refl p
    · exact L.setZone p ⟨rfl, rfl, rfl, rfl, rfl, rfl⟩

theorem setLinkRate (L : EventLaw R) (p : Device) (rate : Byte) : R p (p.setLinkRate rate).1 := by
  unfold Device.setLinkRate
  split
  · exact L.refl p
  · rw [Device.accept_fst]; exact L.withLink p _

theorem setFeederId (L : EventLaw R) (p : Device) (id : Byte) : R p (p.setFeederId id).1 := by
  unfold Device.setFeederId
  split
  · exact L.refl p
  · rw [Device.accept_fst]; exact L.withLink p _

theorem withAlerts (L : EventLaw R) (p : Device) (mask : Byte) :
    R p (p.clearAlerts mask).1 ∧ R p (p.setAlertEnable mask).1 := by
  unfold Device.clearAlerts Device.setAlertEnable
  constructor <;> split
  all_goals exact L.of_eq rfl rfl rfl rfl ⟨rfl, rfl, rfl, rfl, rfl⟩

/-- Reads change nothing of the part. -/
theorem reads (L : EventLaw R) (p : Device) (b field comparison key : Byte) :
    R p (p.readProfile b).1 ∧ R p (p.readNode b).1 ∧ R p (p.readSection b).1 ∧ R p (p.readZone b).1
      ∧ R p (p.scanSections b field comparison key).1 := by
  unfold Device.readProfile Device.readNode Device.readSection Device.readZone Device.scanSections
  refine ⟨?_, ?_, ?_, ?_, ?_⟩
  all_goals repeat' split
  all_goals exact L.refl p

/-- What every row that writes no table keeps. -/
theorem exec (L : EventLaw R) {c : Instr} {s t : State} (h : exec c s = .next t) (hc : ¬ writesTable c) :
    R s.device t.device := by
  cases c with
  | powerOnReset | rstNReset | restartEvaluation | loadProfile | bindNode | unbindNode | clearStranger
  | createSection | editSection | commitSection | recallSection | tuneSection | acknowledgeSection
  | retireSection | setZone | tripZone | releaseTrip => exact absurd trivial hc
  | characterReceived m stop b => cases h; exact L.trans (L.passTo _ m) (L.characterReceived _ stop b)
  | startBit m => cases h; exact L.trans (L.passTo _ m) (L.startBit _)
  | gapTimerExpiry => cases h; exact L.gapTimerExpiry _
  | syncPulse m => cases h; exact L.trans (L.passTo _ m) (L.syncPulse _)
  | syncTimerExpiry =>
    cases h
    dsimp only
    split
    · exact L.trans (L.passTo _ _) (L.enterHoldover _)
    · exact L.refl _
  | holdoverTick =>
    cases h
    dsimp only
    split
    · exact L.trans (L.passTo _ _) (L.holdoverTick _)
    · exact L.refl _
  | freeTick =>
    cases h
    dsimp only
    split
    · exact L.trans (L.passTo _ _) (L.clockTick _ rfl)
    · exact L.refl _
  | slotDeadline e => cases h; exact L.slotDeadline _ e
  | brkLevelChange m z high =>
    cases h
    dsimp only
    split
    · exact L.brkLevelChange _ m _ high
    · exact L.refl _
  | debounceExpiry z =>
    cases h
    dsimp only
    split
    · exact L.debounceExpiry _ _
    · exact L.refl _
  | tripTimeout z =>
    cases h
    dsimp only
    split
    · exact L.tripTimeout _ _
    · exact L.refl _
  | transactionStart m => cases h; exact L.trans (L.passTo _ m) (L.transactionStart _)
  | accessByte b => cases h; exact L.accessByte _ b
  | codeByte b => cases h; exact L.codeByte _ b
  | parameterByte b => cases h; exact L.parameterByte _ b
  | overrunByte b => cases h; exact L.overrunByte _ b
  | resultByteRead => cases h; exact L.resultByteRead _
  | statusByteRead => cases h; exact L.statusByteRead _
  | transactionEnd => cases h; exact L.transactionEnd _
  | setLinkRate rate => cases h; exact L.taken _ (L.setLinkRate _ rate)
  | setJoinFilter value mask => cases h; exact L.taken _ (L.withLink s.device fun l => { l with joinValue := value, joinMask := mask })
  | setFeederId id => cases h; exact L.taken _ (L.setFeederId _ id)
  | readLinkCounters => cases h; exact L.taken _ (L.withCounters s.device fun _ => LinkCounters.zero)
  | setEpochClock => cases h; exact L.taken _ (L.setEpochClock _ _ _ _ _ _ _)
  | readEpochClock => cases h; exact L.taken _ (L.refl _)
  | setEpochNumber n => cases h; exact L.taken _ (L.renumber _ n)
  | readProfile b => cases h; exact L.taken _ (L.reads _ b 0 0 0).1
  | readNode b => cases h; exact L.taken _ (L.reads _ b 0 0 0).2.1
  | readStrangers => cases h; exact L.taken _ (L.refl _)
  | readSection b => cases h; exact L.taken _ (L.reads _ b 0 0 0).2.2.1
  | scanSections b f c k => cases h; exact L.taken _ (L.reads _ b f c k).2.2.2.2
  | readZone b => cases h; exact L.taken _ (L.reads _ b 0 0 0).2.2.2.1
  | senseOutcome => cases h; exact L.taken _ (L.senseOutcome _)
  | holdPermit zone hold => cases h; exact L.taken _ (L.holdPermit _ zone hold)
  | clearAlerts mask => cases h; exact L.taken _ (L.withAlerts _ mask).1
  | setAlertEnable mask => cases h; exact L.taken _ (L.withAlerts _ mask).2
  | readDevice => cases h; exact L.taken _ (L.refl _)

/-- What the part's own work on an empty queue keeps. -/
theorem idle (L : EventLaw R) (s : State) : R s.device s.idle.device := by
  have chosen : R s.device s.device.chosen := L.of_eq rfl rfl rfl rfl ⟨rfl, rfl, rfl, rfl, rfl⟩
  unfold State.idle
  split
  · exact L.of_eq rfl rfl rfl rfl ⟨rfl, rfl, rfl, rfl, rfl⟩
  · exact L.workPiece _
  · exact L.refl _
  · unfold State.choose
    split
    · exact chosen
    · exact L.trans chosen (L.workPiece _)

end EventLaw

/-- Closes, edges and timers keep the names, the lives and the evidence of the records. -/
theorem Device.Follows.workLaw : WorkLaw Device.Follows where
  refl := .refl
  trans := .trans
  frame {p q} h := (Device.Follows.refl p).of_tables h.sections h.nodes fun l z i hi =>
    l z i (by rwa [(h.zones z).causes] at hi)
  nodeWork := Device.nodeWork_follows
  recordWork c p i := (p.recordWork_worked c i).follows

theorem Device.Follows.eventLaw : EventLaw Device.Follows :=
  Device.Follows.workLaw.eventLaw Device.becomeStable_follows fun p z _ => p.timeout_follows z

end Sys2Proof.Machine

/-! ## What each section command can do

Each command refuses, and then the part stands, or does its one thing under the conditions of its rule. -/

namespace Sys2Proof.Machine

theorem indexParam_some {n : Nat} {b : Byte} {i : Fin n} (h : indexParam n b = some i) : i.val = b.toNat := by
  unfold indexParam at h
  split at h
  · cases h; rfl
  · cases h

/-- A phase set parameter names some phase (R182). -/
theorem phaseSetParam_ne_none {b : Byte} {s : PhaseSet} (h : phaseSetParam b = some s) : s ≠ PhaseSet.none := by
  unfold phaseSetParam at h
  split at h
  · cases h
  · rename_i hb
    obtain ⟨h0, h7⟩ := not_or.mp hb
    rintro rfl
    injection h with h
    injection h with ha hb hc
    apply h0
    apply BitVec.eq_of_getLsbD_eq
    intro k hk
    rcases Nat.lt_or_ge k 3 with hk3 | hk3
    · interval_cases k
      · simpa using ha
      · simpa using hb
      · simpa using hc
    · have hlt : b.toNat < 2 ^ k := by
        have : 2 ^ 3 ≤ 2 ^ k := Nat.pow_le_pow_right (by omega) hk3
        omega
      simp [BitVec.getLsbD, Nat.testBit_lt_two_pow hlt]

theorem newDownstream_length {n1 n2 n3 n4 : Byte} {new : List NodeIx} (h : newDownstream n1 n2 n3 n4 = some new) :
    new.length ≤ 4 := by
  unfold newDownstream at h
  split at h
  · injection h with h
    rw [← h]
    exact List.length_filterMap_le _ _
  · cases h

/-- R14: what the checks of CREATE SECTION find when none refuses. -/
theorem Device.createCheck_none {p : Device} {i : SecIx} {u : NodeIx} {s : PhaseSet}
    (h : p.createCheck i u s = none) :
    (p.sections.get i).state = .vacant ∧ (p.nodes.get u).bound = true ∧ p.isUpstream u = false
      ∧ PhaseSet.contains (p.nodes.get u).phases s = true := by
  unfold Device.createCheck at h
  split at h
  · cases h
  · split at h
    · cases h
    · split at h
      · cases h
      · split at h
        · cases h
        · simp_all

theorem Device.createSection_cases (p : Device) (sec upstream zone phs profile : Byte) :
    (p.createSection sec upstream zone phs profile).1 = p
      ∨ ∃ i u z s pr, p.createCheck i u s = none ∧ s ≠ PhaseSet.none
        ∧ (p.createSection sec upstream zone phs profile).1 = p.create i u z s pr := by
  unfold Device.createSection
  split
  · split
    · split
      · exact .inl rfl
      · exact .inr ⟨_, _, _, _, _, ‹_›, phaseSetParam_ne_none ‹_›, rfl⟩
    · exact .inl rfl
  · exact .inl rfl

theorem Device.editSection_cases (p : Device) (sec n1 n2 n3 n4 : Byte) (ta tb tc : Half) :
    (p.editSection sec n1 n2 n3 n4 ta tb tc).1 = p
      ∨ ∃ i new, (p.sections.get i).state = .draft ∧ p.editCheck i [] new = none ∧ new.length ≤ 4
        ∧ (p.editSection sec n1 n2 n3 n4 ta tb tc).1 = p.edit i new (tapFields ta tb tc) := by
  unfold Device.editSection
  split
  · split
    · exact .inl rfl
    · rename_i hd
      split
      · exact .inl rfl
      · exact .inr ⟨_, _, not_not.mp hd, ‹_›, newDownstream_length ‹_›, rfl⟩
  · exact .inl rfl

theorem Device.commitSection_cases (p : Device) (sec : Byte) :
    (p.commitSection sec).1 = p
      ∨ ∃ i, (p.sections.get i).state = .draft ∧ (p.commitSection sec).1 = p.place i (p.sections.get i) := by
  unfold Device.commitSection
  split
  · exact .inl rfl
  · split
    · exact .inl rfl
    · rename_i hd
      split
      · exact .inl rfl
      · exact .inr ⟨_, not_not.mp hd, rfl⟩

theorem Device.recallSection_cases (p : Device) (sec : Byte) :
    (p.recallSection sec).1 = p
      ∨ ∃ i, (p.sections.get i).unlatched
        ∧ (p.recallSection sec).1 = p.setSection i (p.sections.get i).recall := by
  unfold Device.recallSection
  split
  · exact .inl rfl
  · split
    · exact .inr ⟨_, by simp [SectionRec.unlatched_iff, *], rfl⟩
    · exact .inr ⟨_, by simp [SectionRec.unlatched_iff, *], rfl⟩
    · exact .inr ⟨_, by simp [SectionRec.unlatched_iff, *], rfl⟩
    · exact .inr ⟨_, by simp [SectionRec.unlatched_iff, *], rfl⟩
    · exact .inr ⟨_, by simp [SectionRec.unlatched_iff, *], rfl⟩
    all_goals exact .inl rfl

theorem SecState.tunable_iff (s : SecState) :
    s.tunable = true ↔ s ≠ .vacant ∧ s ≠ .confirmed ∧ s ≠ .isolated := by
  cases s <;> simp [SecState.tunable]

theorem Device.tuneSection_cases (p : Device) (sec profile : Byte) (ta tb tc : Half) :
    (p.tuneSection sec profile ta tb tc).1 = p
      ∨ ∃ i pr, (p.sections.get i).unlatched ∧ (p.tuneSection sec profile ta tb tc).1 =
          p.setSection i (((p.sections.get i).tuned pr (tapFields ta tb tc)).afterTune (p.profiles.get pr)) := by
  unfold Device.tuneSection
  split
  · dsimp only
    split
    · rename_i ht
      exact .inr ⟨_, _, (SectionRec.unlatched_iff _).mpr ((SecState.tunable_iff _).mp ht), rfl⟩
    · exact .inl rfl
  · exact .inl rfl

theorem Device.acknowledgeSection_cases (p : Device) (sec : Byte) :
    (p.acknowledgeSection sec).1 = p
      ∨ ∃ i : SecIx, i.val = sec.toNat ∧ (p.sections.get i).acknowledgeable = true
        ∧ (p.acknowledgeSection sec).1 = p.place i (p.sections.get i).acknowledged := by
  unfold Device.acknowledgeSection
  split
  · exact .inl rfl
  · split
    · exact .inr ⟨_, indexParam_some ‹_›, ‹_›, rfl⟩
    · exact .inl rfl

theorem Device.retireSection_cases (p : Device) (sec : Byte) :
    (p.retireSection sec).1 = p
      ∨ ∃ i : SecIx, i.val = sec.toNat ∧ (p.sections.get i).retirable = true
        ∧ (p.retireSection sec).1 = p.retire i := by
  unfold Device.retireSection
  split
  · exact .inl rfl
  · split
    · exact .inr ⟨_, indexParam_some ‹_›, ‹_›, rfl⟩
    · exact .inl rfl

theorem Device.setZoneCommand_cases (p : Device) (zone hz te ee : Byte) (tmo : Half) (db pol : Byte) :
    (p.setZoneCommand zone hz te ee tmo db pol).1 = p
      ∨ ∃ z c, (p.setZoneCommand zone hz te ee tmo db pol).1 = p.applyZone z c := by
  unfold Device.setZoneCommand
  split
  · exact .inl rfl
  · split
    · exact .inl rfl
    · exact .inr ⟨_, _, rfl⟩

theorem Device.tripZone_cases (p : Device) (zone : Byte) :
    (p.tripZone zone).1 = p
      ∨ ∃ z, ((p.zones.get z).seq = .idle ∧ (p.zones.get z).isOpen = true
            ∧ (p.tripZone zone).1 = p.latchOutcome z manualAlreadyOpen)
        ∨ ((p.zones.get z).seq = .idle ∧ (p.zones.get z).isOpen = false
            ∧ (p.tripZone zone).1 = p.setZone z ((p.zones.get z).startTrip p.now [] true))
        ∨ ((p.zones.get z).seq = .tripping
            ∧ (p.tripZone zone).1 = p.setZone z { p.zones.get z with manual := true }) := by
  unfold Device.tripZone
  split
  · exact .inl rfl
  · rename_i z _
    dsimp only
    split
    · rename_i hs
      refine .inr ⟨z, ?_⟩
      split
      · exact .inl ⟨hs, ‹_›, rfl⟩
      · exact .inr (.inl ⟨hs, eq_false_of_ne_true ‹_›, rfl⟩)
    · exact .inr ⟨z, .inr (.inr ⟨‹_›, rfl⟩)⟩
    · exact .inl rfl

theorem Device.releaseTrip_cases (p : Device) (zone : Byte) :
    (p.releaseTrip zone).1 = p
      ∨ ∃ z, (p.zones.get z).seq = .hanging ∧ (p.releaseTrip zone).1 = p.setZone z (p.zones.get z).endTrip := by
  unfold Device.releaseTrip
  split
  · exact .inl rfl
  · split
    · exact .inr ⟨_, ‹_›, rfl⟩
    all_goals exact .inl rfl

/-- R86: what an accepted RESTART EVALUATION leaves. -/
structure Device.Restarted (p q : Device) : Prop where
  sections : ∀ i, q.sections.get i = (p.sections.get i).restart (p.profileOf (p.sections.get i))
  nodes : ∀ n, q.nodes.get n = (p.nodes.get n).restart
  zones : q.zones = p.zones
  profiles : q.profiles = p.profiles
  slots : q.slots = []
  held : q.held = p.held
  strangers : q.strangers = p.strangers
  overwrites : q.overwrites = p.overwrites

theorem Device.restart_cases (p : Device) : p.restart.1 = p ∨ p.Restarted p.restart.1 := by
  unfold Device.restart
  split
  · exact .inl rfl
  · refine .inr ⟨fun i => ?_, fun n => ?_, rfl, rfl, rfl, rfl, rfl, rfl⟩
    · rw [Device.accept_fst, Device.mapSections_sections, Table.get_mapIdx]
      rfl
    · rw [Device.accept_fst, Device.mapSections_nodes, Table.get_mapIdx]

theorem Device.bindNode_cases (p : Device) (node : Byte) (addr : Addr) (phs : Byte) :
    (p.bindNode node addr phs).1 = p
      ∨ ∃ n s, s ≠ PhaseSet.none ∧ (p.nodes.get n).bound = false ∧ p.nodeOf addr = none
        ∧ (p.bindNode node addr phs).1 = (p.setNode n (Node.fresh addr s)).dropStranger addr := by
  unfold Device.bindNode
  split
  · exact .inl rfl
  · split
    · exact .inl rfl
    · split
      · exact .inl rfl
      · rename_i hb
        split
        · exact .inl rfl
        · rename_i ha
          exact .inr ⟨_, _, phaseSetParam_ne_none ‹_›, by simpa using hb, by simpa using ha, rfl⟩

theorem Device.unbind_cases (p : Device) (node : Byte) :
    (p.unbind node).1 = p
      ∨ ∃ n, (p.nodes.get n).refs = 0 ∧ (p.unbind node).1 = (p.setNode n Node.unbound).removeFromSlots n := by
  unfold Device.unbind
  split
  · exact .inl rfl
  · split
    · exact .inl rfl
    · split
      · exact .inl rfl
      · exact .inr ⟨_, by omega, rfl⟩

/-! ### Commands that keep names and evidence -/

theorem SectionRec.afterTune_cases (prof : Profile) (r : SectionRec) :
    r.afterTune prof = r
      ∨ r.afterTune prof = r.enterSettling prof ∧ (r.state = .armed ∨ r.state = .suspect ∨ r.state = .settling) := by
  unfold SectionRec.afterTune
  split <;> simp [*]

theorem Device.commitSection_follows (p : Device) (sec : Byte) : p.Follows (p.commitSection sec).1 := by
  rcases p.commitSection_cases sec with e | ⟨i, hd, e⟩
  · rw [e]; exact .refl p
  · obtain ⟨u, b, hu, e'⟩ := p.place_cases i (p.sections.get i)
    have hr : (p.sections.get i).unlatched := by simp [SectionRec.unlatched_iff, hd]
    rw [e, e']
    exact ((Device.Follows.refl p).setSection (hu.follows hr) hr.1).sectionFlagIf b

theorem Device.recallSection_follows (p : Device) (sec : Byte) : p.Follows (p.recallSection sec).1 := by
  rcases p.recallSection_cases sec with e | ⟨i, hr, e⟩
  · rw [e]; exact .refl p
  · rw [e]
    exact (Device.Follows.refl p).setSection (.of_names hr.2 nofun ⟨rfl, rfl, rfl, rfl⟩) hr.1

theorem Device.tuneSection_follows (p : Device) (sec profile : Byte) (ta tb tc : Half) :
    p.Follows (p.tuneSection sec profile ta tb tc).1 := by
  rcases p.tuneSection_cases sec profile ta tb tc with e | ⟨i, pr, hr, e⟩
  · rw [e]; exact .refl p
  · rw [e]
    refine (Device.Follows.refl p).setSection ?_ hr.1
    rcases SectionRec.afterTune_cases (p.profiles.get pr)
      ((p.sections.get i).tuned pr (tapFields ta tb tc)) with e | ⟨e, -⟩
    · rw [e]; exact .of_names hr.2 hr.1 ⟨rfl, rfl, rfl, rfl⟩
    · rw [e]
      have hu := SectionRec.Entered.settling (profiles := p.profiles)
        (r := (p.sections.get i).tuned pr (tapFields ta tb tc)) pr
      exact .of_names hr.2 hu.unlatched.1 ⟨rfl, rfl, rfl, rfl⟩

theorem Device.setZoneCommand_follows (p : Device) (zone hz te ee : Byte) (tmo : Half) (db pol : Byte) :
    p.Follows (p.setZoneCommand zone hz te ee tmo db pol).1 := by
  rcases p.setZoneCommand_cases zone hz te ee tmo db pol with e | ⟨z, c, e⟩
  · rw [e]; exact .refl p
  · rw [e]; exact p.applyZone_follows z c

theorem Device.tripZone_follows (p : Device) (zone : Byte) : p.Follows (p.tripZone zone).1 := by
  have h : p.Follows p := .refl p
  rcases p.tripZone_cases zone with e | ⟨z, ⟨-, -, e⟩ | ⟨-, -, e⟩ | ⟨-, e⟩⟩
  · rw [e]; exact h
  · rw [e]; exact h.latchOutcome z _
  · rw [e]; exact h.setZone_of_causes (.inr rfl)
  · rw [e]; exact h.setZone_of_causes (.inl rfl)

theorem Device.releaseTrip_follows (p : Device) (zone : Byte) : p.Follows (p.releaseTrip zone).1 := by
  rcases p.releaseTrip_cases zone with e | ⟨z, -, e⟩
  · rw [e]; exact .refl p
  · rw [e]; exact (Device.Follows.refl p).setZone_of_causes (.inr rfl)

theorem Device.restart_follows (p : Device) : p.Follows p.restart.1 := by
  rcases p.restart_cases with e | e
  · rw [e]; exact .refl p
  · have records : ∀ i, (p.sections.get i).Follows (p.restart.1.sections.get i) := fun i => by
      rw [e.sections]; exact SectionRec.restart_follows _ _
    refine ⟨records, Device.causesLive_of_records (fun i => (records i).live) fun z => by rw [e.zones],
      fun _ i k => ?_, fun n => by rw [e.nodes]; exact Node.restart_follows _⟩
    rw [e.sections] at k
    rcases (p.sections.get i).restart_cases (p.profileOf (p.sections.get i)) with e | ⟨-, hs⟩
    · rwa [e] at k
    · rcases hs with hs | hs | hs <;> simp [SectionRec.live, hs]

theorem Device.restartEvaluation_follows (p : Device) : p.Follows p.restartEvaluation.1 :=
  (Device.Follows.eventLaw.finishWork p).trans (Device.restart_follows _)

/-! ### Latched records (O55) -/

/-- R155, R156: a latched record withdraws the permissives of its zone and of zone 0. -/
theorem Device.permit_of_latched {p : Device} {i : SecIx} {z : ZoneIx} (h : (p.sections.get i).latched)
    (hz : p.inScope z i = true) : p.permit z = false := by
  have hb : p.blocks i = true := by
    rcases h with h | h <;> simp [Device.blocks, SectionRec.blocks, h]
  have : (p.sections.any fun i _ => p.inScope z i && p.blocks i) = true :=
    (Table.any_iff _ _).mpr ⟨i, by simp [hz, hb]⟩
  simp [Device.permit, this]

/-- The record at `i`, if latched, keeps its evidence. -/
def Device.KeepsEvidence (p q : Device) (i : SecIx) : Prop :=
  (p.sections.get i).latched → (p.sections.get i).KeepsEvidence (q.sections.get i)

theorem Device.Follows.evidence {p q : Device} (h : p.Follows q) (i : SecIx) : p.KeepsEvidence q i :=
  (h.records i).evidence

theorem Device.KeepsEvidence.of_eq {p q : Device} {i : SecIx} (h : q.sections.get i = p.sections.get i) :
    p.KeepsEvidence q i := fun l => by rw [h]; exact .refl l

/-- Writing a record that is not latched, or another one. -/
theorem Device.KeepsEvidence.of_set {p q : Device} {i j : SecIx} {r : SectionRec}
    (h : q.sections = p.sections.set j r) (hj : ¬ (p.sections.get j).latched ∨ j ≠ i) : p.KeepsEvidence q i := by
  intro l
  have hij : i ≠ j := by
    rintro rfl
    exact hj.elim (fun k => k l) (fun k => k rfl)
  rw [h, Table.get_set_of_ne _ _ hij]
  exact .refl l

theorem Device.createSection_evidence (p : Device) (sec up zone phs prof : Byte) (i : SecIx) :
    p.KeepsEvidence (p.createSection sec up zone phs prof).1 i := by
  rcases p.createSection_cases sec up zone phs prof with e | ⟨j, u, z, s, pr, hc, -, e⟩
  · exact .of_eq (by rw [e])
  · refine .of_set (j := j) (by rw [e]; rfl) (.inl ?_)
    simp [SectionRec.latched, (Device.createCheck_none hc).1]

theorem Device.editSection_evidence (p : Device) (sec n1 n2 n3 n4 : Byte) (ta tb tc : Half) (i : SecIx) :
    p.KeepsEvidence (p.editSection sec n1 n2 n3 n4 ta tb tc).1 i := by
  rcases p.editSection_cases sec n1 n2 n3 n4 ta tb tc with e | ⟨j, new, hd, -, -, e⟩
  · exact .of_eq (by rw [e])
  · refine .of_set (j := j) (by rw [e]; rfl) (.inl ?_)
    simp [SectionRec.latched, hd]

theorem Device.acknowledgeSection_evidence (p : Device) {sec : Byte} {i : SecIx} (h : sec.toNat ≠ i.val) :
    p.KeepsEvidence (p.acknowledgeSection sec).1 i := by
  rcases p.acknowledgeSection_cases sec with e | ⟨j, hj, -, e⟩
  · exact .of_eq (by rw [e])
  · obtain ⟨u, b, -, e'⟩ := p.place_cases j (p.sections.get j).acknowledged
    exact .of_set (j := j) (by rw [e, e']; simp; rfl) (.inr fun k => h (by rw [← hj, k]))

theorem Device.retireSection_evidence (p : Device) {sec : Byte} {i : SecIx} (h : sec.toNat ≠ i.val) :
    p.KeepsEvidence (p.retireSection sec).1 i := by
  rcases p.retireSection_cases sec with e | ⟨j, hj, -, e⟩
  · exact .of_eq (by rw [e])
  · exact .of_set (j := j) (by rw [e]; rfl) (.inr fun k => h (by rw [← hj, k]))

theorem Device.bindNode_sections (p : Device) (node : Byte) (addr : Addr) (phs : Byte) :
    (p.bindNode node addr phs).1.sections = p.sections := by
  rcases p.bindNode_cases node addr phs with e | ⟨n, s, -, -, -, e⟩
  · rw [e]
  · rw [e]; rfl

theorem Device.unbindNode_evidence (p : Device) (node : Byte) (i : SecIx) :
    p.KeepsEvidence (p.unbindNode node).1 i := by
  have h : (p.unbindNode node).1.sections = p.finishWork.sections := by
    unfold Device.unbindNode
    rcases p.finishWork.unbind_cases node with e | ⟨n, -, e⟩
    · rw [e]
    · rw [e]; rfl
  intro l
  rw [h]
  exact (Device.Follows.eventLaw.finishWork p).evidence i l

theorem Device.loadProfile_sections (p : Device) (index : Byte) (sent : Profile) :
    (p.loadProfile index sent).1.sections = p.sections := by
  unfold Device.loadProfile
  split <;> rfl

theorem Device.clearStranger_sections (p : Device) (slot : Byte) :
    (p.clearStranger slot).1.sections = p.sections := by
  unfold Device.clearStranger
  split <;> rfl

/-- R3: a latched record keeps its evidence through every row but its own acknowledgement or retirement and the
resets. -/
theorem exec_keepsEvidence {s t : State} {c : Instr} {i : SecIx} (h : exec c s = .next t) (hr : ¬ resetRow c)
    (hc : ∀ b : Byte, b.toNat = i.val → c ≠ .acknowledgeSection b ∧ c ≠ .retireSection b) :
    s.device.KeepsEvidence t.device i := by
  have answered : ∀ a : Answer, s.device.KeepsEvidence a.1 i → s.device.KeepsEvidence (s.answered a.1 a.2).device i :=
    fun a k => by unfold Device.KeepsEvidence; rwa [State.answered_sections]
  by_cases hw : writesTable c
  · cases c with
    | powerOnReset | rstNReset => exact absurd trivial hr
    | restartEvaluation => cases h; exact answered _ (s.device.restartEvaluation_follows.evidence i)
    | loadProfile => cases h; exact answered _ (.of_eq (by rw [Device.loadProfile_sections]))
    | bindNode => cases h; exact answered _ (.of_eq (by rw [Device.bindNode_sections]))
    | unbindNode => cases h; exact answered _ (Device.unbindNode_evidence _ _ i)
    | clearStranger => cases h; exact answered _ (.of_eq (by rw [Device.clearStranger_sections]))
    | createSection => cases h; exact answered _ (Device.createSection_evidence _ _ _ _ _ _ i)
    | editSection => cases h; exact answered _ (Device.editSection_evidence _ _ _ _ _ _ _ _ _ i)
    | commitSection => cases h; exact answered _ ((Device.commitSection_follows _ _).evidence i)
    | recallSection => cases h; exact answered _ ((Device.recallSection_follows _ _).evidence i)
    | tuneSection => cases h; exact answered _ ((Device.tuneSection_follows _ _ _ _ _ _).evidence i)
    | acknowledgeSection b =>
      cases h
      exact answered _ (Device.acknowledgeSection_evidence _ fun e => (hc b e).1 rfl)
    | retireSection b =>
      cases h
      exact answered _ (Device.retireSection_evidence _ fun e => (hc b e).2 rfl)
    | setZone => cases h; exact answered _ ((Device.setZoneCommand_follows _ _ _ _ _ _ _ _).evidence i)
    | tripZone => cases h; exact answered _ ((Device.tripZone_follows _ _).evidence i)
    | releaseTrip => cases h; exact answered _ ((Device.releaseTrip_follows _ _).evidence i)
    | _ => exact absurd hw id
  · exact (Device.Follows.eventLaw.exec h hw).evidence i

/-- Settles O55: every row keeps the evidence of a latched record, and a latched record blocks its zone's
permissive and zone 0's. -/
theorem latchedRecordsKeepTheirEvidence : Obligations.LatchedRecordsKeepTheirEvidence := by
  intro s t c i h hl hr hc
  obtain ⟨latched, isolated, fields⟩ := exec_keepsEvidence h hr hc hl
  have zone : (t.device.sections.get i).zone = (s.device.sections.get i).zone := by rw [fields]
  exact ⟨latched, isolated, fields, Device.permit_of_latched latched (by simp [Device.inScope, zone]),
    Device.permit_of_latched latched rfl⟩

end Sys2Proof.Machine

/-! ## The laws of a record through every move

R2, R3, R6, R102, R109, R143, field by field, and what each entry, close and command makes of them. -/

namespace Sys2Proof.Machine

/-- The laws of a record (`SectionRec.lawful`), each under a name. -/
structure SectionRec.Laws (r : SectionRec) : Prop where
  vacant : r.state = .vacant → r = SectionRec.vacant
  phases : r.live → r.phases ≠ PhaseSet.none
  cause : r.cause.isSome ↔ r.latched
  confirmEpoch : r.confirmEpoch.isSome ↔ r.latched
  mark : r.mark ≠ .none ↔ r.state = .confirmed
  escalated : r.escalated = true → r.latched
  withheld : r.mark = .withheld → r.escalated = false
  settle : 0 < r.settle ↔ r.state = .settling
  settleMax : r.settle ≤ 255
  absent : ∀ ph, r.phases.get ph = false → r.tap.get ph = 0 ∧ r.openScore.get ph = 0 ∧ r.leakScore.get ph = 0
  range : ∀ ph, r.openScore.get ph ≤ 255 ∧ r.leakScore.get ph ≤ 255 ∧ r.tap.get ph ≤ 32767
  firstHit : r.firstHit = none → r.scoresZero
  noHit : r.state = .draft ∨ r.state = .settling ∨ r.state = .blind ∨ r.state = .dormant → r.firstHit = none

theorem SectionRec.lawful_iff (r : SectionRec) : r.lawful ↔ r.Laws := by
  constructor
  · rintro ⟨h1, h2, h3, h4, h5, h6, h7, h8, h9, h10, h11, h12, h13⟩
    exact ⟨h1, h2, h3, h4, h5, h6, h7, h8, h9, h10, h11, h12, h13⟩
  · rintro ⟨h1, h2, h3, h4, h5, h6, h7, h8, h9, h10, h11, h12, h13⟩
    exact ⟨h1, h2, h3, h4, h5, h6, h7, h8, h9, h10, h11, h12, h13⟩

section
variable {profiles : Table Profile 8} {r u : SectionRec}

theorem SectionRec.Laws.mark_none (h : r.Laws) (hs : r.state ≠ .confirmed) : r.mark = .none := by
  by_contra k
  exact hs (h.mark.mp k)

/-- R8, R23: what the placement test asks of a record: no trip, no cause, lawful taps. -/
structure SectionRec.Placeable (r : SectionRec) : Prop where
  phases : r.phases ≠ PhaseSet.none
  cause : r.cause = none
  confirmEpoch : r.confirmEpoch = none
  mark : r.mark = .none
  escalated : r.escalated = false
  absent : ∀ ph, r.phases.get ph = false → r.tap.get ph = 0
  range : ∀ ph, r.tap.get ph ≤ 32767

theorem SectionRec.Laws.placeable (h : r.Laws) (hr : r.unlatched) : r.Placeable where
  phases := h.phases hr.1
  cause := by simpa using mt h.cause.mp hr.2
  confirmEpoch := by simpa using mt h.confirmEpoch.mp hr.2
  mark := h.mark_none (((SectionRec.unlatched_iff r).mp hr).2.1)
  escalated := by simpa using mt h.escalated hr.2
  absent ph k := (h.absent ph k).1
  range ph := (h.range ph).2.2

/-- R23: an acknowledged record can be placed. -/
theorem SectionRec.Laws.acknowledged (h : r.Laws) (hr : r.live) : r.acknowledged.Placeable where
  phases := h.phases hr
  cause := rfl
  confirmEpoch := rfl
  mark := rfl
  escalated := rfl
  absent ph k := (h.absent ph k).1
  range ph := (h.range ph).2.2

/-- A record without scores that is not latched. -/
theorem SectionRec.Placeable.laws (h : r.Placeable) (hr : r.unlatched) (ho : r.openScore = PerPhase.all 0)
    (hl : r.leakScore = PerPhase.all 0) (hf : r.firstHit = none) (hs : 0 < r.settle ↔ r.state = .settling)
    (hm : r.settle ≤ 255) : r.Laws where
  vacant e := absurd e hr.1
  phases _ := h.phases
  cause := by simp [h.cause, hr.2]
  confirmEpoch := by simp [h.confirmEpoch, hr.2]
  mark := by simp [h.mark, ((SectionRec.unlatched_iff r).mp hr).2.1]
  escalated e := by simp [h.escalated] at e
  withheld _ := h.escalated
  settle := hs
  settleMax := hm
  absent ph k := by simp [h.absent ph k, ho, hl]
  range ph := by simp [h.range ph, ho, hl]
  firstHit _ ph := by simp [ho, hl]
  noHit _ := hf

/-- R6, R7: an entry makes a lawful record. -/
theorem SectionRec.Entered.laws (h : r.Entered profiles u) (hr : r.Placeable)
    (hp : ∀ k, (profiles.get k).lawful) : u.Laws := by
  have hu := h.unlatched
  have placed : u.Placeable := by cases h <;> exact ⟨hr.1, hr.2, hr.3, hr.4, hr.5, hr.6, hr.7⟩
  cases h with
  | draft => exact placed.laws hu rfl rfl rfl (by simp [SectionRec.enterDraft]) (Nat.zero_le _)
  | dormant => exact placed.laws hu rfl rfl rfl (by simp [SectionRec.enterDormant]) (Nat.zero_le _)
  | blind => exact placed.laws hu rfl rfl rfl (by simp [SectionRec.enterBlind]) (Nat.zero_le _)
  | settling k =>
    obtain ⟨-, -, -, -, -, -, -, -, -, hk⟩ := hp k
    refine placed.laws hu rfl rfl rfl ?_ hk
    by_cases e : (profiles.get k).settleEpochs = 0 <;> simp [SectionRec.enterSettling, e]
    omega

theorem SectionRec.Entered.mark (h : r.Entered profiles u) : u.mark = r.mark := by cases h <;> rfl

/-! ### Evaluation -/

/-- R98: a score stays 0 where no hit is scored, and in 0..255 always. -/
theorem newOpenScore_le (prof : Profile) (motion : Bool) (res : PhaseResult) {k : Nat} (h : k ≤ 255) :
    newOpenScore prof motion res k ≤ 255 := by
  unfold newOpenScore
  split
  · exact Nat.min_le_left _ _
  · omega
  all_goals exact h

theorem newLeakScore_le (prof : Profile) (res : PhaseResult) {k : Nat} (h : k ≤ 255) :
    newLeakScore prof res k ≤ 255 := by
  unfold newLeakScore
  split
  · exact Nat.min_le_left _ _
  · omega
  all_goals exact h

theorem newScores_of_no_hit (prof : Profile) (motion : Bool) {res : PhaseResult} (h : res.hit = false) :
    newOpenScore prof motion res 0 = 0 ∧ newLeakScore prof res 0 = 0 := by
  match res, h with
  | .skipped, _ => exact ⟨rfl, rfl⟩
  | .inconsistent, _ => exact ⟨rfl, rfl⟩
  | .scored .miss none, _ => exact ⟨rfl, Nat.zero_sub _⟩
  | .scored .absent none, _ => exact ⟨rfl, Nat.zero_sub _⟩

theorem anyResult_false {f : PhaseResult → Bool} {res : PerPhase PhaseResult} (h : anyResult f res = false)
    (ph : Phase) : f (res.get ph) = false := by
  unfold anyResult at h
  rw [List.any_eq_false] at h
  simpa using h ph (mem_allPhases ph)

/-- R100: the first-hit epoch stays absent where it was and no hit is applied. -/
theorem SectionRec.applyScores_firstHit_none {prof : Profile} {motion : Bool} {epoch : Half}
    {res : PerPhase PhaseResult} (h : (r.applyScores prof motion epoch res).firstHit = none) :
    r.firstHit = none ∧ anyResult PhaseResult.hit res = false := by
  unfold SectionRec.applyScores at h
  dsimp only at h
  split at h
  · cases h
  · rename_i hh
    exact ⟨h, by simpa [h] using hh⟩

/-- R98 to R100: scoring keeps a record lawful. -/
theorem SectionRec.Scored.laws (h : r.Scored u) (hr : r.Laws) : u.Laws := by
  cases h with
  | scored prof motion epoch res hs hp =>
    have state : ∀ s, s ≠ SecState.armed → s ≠ .suspect → r.state ≠ s := fun s ha hb e => by
      rcases hs with k | k
      · exact ha (e.symm.trans k)
      · exact hb (e.symm.trans k)
    refine { hr with vacant := fun e => absurd e (state _ nofun nofun), absent := fun ph k => ?_,
                     range := fun ph => ?_, firstHit := fun e ph => ?_, noHit := fun e => ?_ }
    · obtain ⟨ht, ho, hl⟩ := hr.absent ph k
      exact ⟨ht, by simp [SectionRec.applyScores, SectionRec.markInconsistent, hp ph k, newOpenScore, ho],
        by simp [SectionRec.applyScores, SectionRec.markInconsistent, hp ph k, newLeakScore, hl]⟩
    · obtain ⟨ho, hl, ht⟩ := hr.range ph
      refine ⟨?_, ?_, ht⟩
      · simpa [SectionRec.applyScores, SectionRec.markInconsistent] using newOpenScore_le prof motion _ ho
      · simpa [SectionRec.applyScores, SectionRec.markInconsistent] using newLeakScore_le prof _ hl
    · obtain ⟨hf, no⟩ := SectionRec.applyScores_firstHit_none e
      obtain ⟨ho, hl⟩ := hr.firstHit hf ph
      have hz := newScores_of_no_hit prof motion (anyResult_false no ph)
      simpa [SectionRec.applyScores, SectionRec.markInconsistent, ho, hl] using hz
    · rcases e with e | e | e | e <;> exact absurd e (state _ nofun nofun)

/-- R102, R103: settling keeps a record lawful. -/
theorem SectionRec.settleDown_laws (res : PerPhase PhaseResult) (hr : r.Laws) (hs : r.state = .settling) :
    (r.settleDown res).Laws := by
  have hu : r.unlatched := by simp [SectionRec.unlatched_iff, hs]
  have hf := hr.noHit (.inr (.inl hs))
  have placed : ∀ st n, SectionRec.Placeable { r with settle := n, state := st } := fun st n =>
    let h := hr.placeable hu
    ⟨h.1, h.2, h.3, h.4, h.5, h.6, h.7⟩
  have zero : r.openScore = PerPhase.all 0 ∧ r.leakScore = PerPhase.all 0 :=
    ⟨PerPhase.eq_of_get fun ph => by simp [hr.firstHit hf ph], PerPhase.eq_of_get fun ph => by simp [hr.firstHit hf ph]⟩
  have hm := hr.settleMax
  unfold SectionRec.settleDown
  split
  · refine (placed _ _).laws ?_ zero.1 zero.2 hf ?_ (by dsimp only; omega)
    · rw [SectionRec.unlatched_iff]; dsimp only; split <;> simp
    · dsimp only; split <;> simp <;> omega
  · exact hr

/-- R104, R107, R108: a record that goes between ARMED and SUSPECT. -/
theorem SectionRec.Laws.between (h : r.Laws) (hr : r.state = .armed ∨ r.state = .suspect) {s : SecState}
    (hs : s = .armed ∨ s = .suspect) : SectionRec.Laws { r with state := s } := by
  have hu : r.unlatched := by rw [SectionRec.unlatched_iff]; rcases hr with e | e <;> simp [e]
  have settle : r.settle = 0 := by
    have k := h.settle
    rcases hr with e | e <;> simpa [e] using k
  obtain ⟨hp, hc, he, hm, hx, -, -⟩ := h.placeable hu
  refine { h with vacant := ?_, phases := fun _ => hp, cause := ?_, confirmEpoch := ?_, mark := ?_, escalated := ?_,
                  settle := ?_, noHit := ?_ }
  all_goals rcases hs with rfl | rfl <;> simp [SectionRec.latched, *]

theorem SectionRec.Worked.laws (h : r.Worked profiles u) (hr : r.Laws) (hp : ∀ k, (profiles.get k).lawful) :
    u.Laws := by
  cases h with
  | entered hu h => exact h.laws (hr.placeable hu) hp
  | settled res hs =>
    have hi : (r.markInconsistent res).Laws := { hr with vacant := fun e => absurd (hs.symm.trans e) nofun }
    exact SectionRec.settleDown_laws res hi hs
  | scored h s hs => exact (h.laws hr).between (by rw [h.state.1]; exact h.state.2) hs

theorem SectionRec.Worked.mark (h : r.Worked profiles u) : u.mark = r.mark := by
  cases h with
  | entered hu h => exact h.mark
  | settled res hs => unfold SectionRec.settleDown; split <;> rfl
  | scored h s hs => cases h; rfl

/-! ### Trip requests -/

/-- A CONFIRMED record that is lawful but for its trip mark: its trip request is in hand. -/
structure SectionRec.Requesting (r : SectionRec) : Prop where
  state : r.state = .confirmed
  laws : (r.withMark .pending).Laws

/-- A lawful CONFIRMED record may send its request. -/
theorem SectionRec.Laws.requesting (h : r.Laws) (hs : r.state = .confirmed) : r.Requesting :=
  ⟨hs, { h with vacant := fun e => absurd (hs.symm.trans e) nofun
                mark := ⟨fun _ => hs, fun _ => nofun⟩
                withheld := nofun }⟩

/-- R109: a record that is confirmed sends its request. -/
theorem SectionRec.Laws.confirm (h : r.Laws) (cause : Cause) (e : Half) (hr : r.unlatched) :
    (r.confirm cause e).Requesting :=
  ⟨rfl, { h with
    vacant := nofun
    phases := fun _ => h.phases hr.1
    cause := ⟨fun _ => .inl rfl, fun _ => rfl⟩
    confirmEpoch := ⟨fun _ => .inl rfl, fun _ => rfl⟩
    mark := ⟨fun _ => rfl, fun _ => nofun⟩
    escalated := nofun
    withheld := nofun
    settle := ⟨nofun, nofun⟩
    settleMax := Nat.zero_le _
    noHit := by rintro (e | e | e | e) <;> cases e }⟩

/-- R141, R143: the marks that answer a request. -/
theorem SectionRec.Requesting.withMark (h : r.Requesting) {m : TripMark} (hm : m ≠ .none)
    (hw : m = .withheld → r.escalated = false) : (r.withMark m).Laws :=
  { h.laws with vacant := fun e => absurd (h.state.symm.trans e) nofun
                mark := ⟨fun _ => h.state, fun _ => hm⟩
                withheld := hw }

/-- R142: a request that zone 0 takes. -/
theorem SectionRec.Requesting.joinEscalated (h : r.Requesting) : r.joinEscalated.Laws :=
  { h.laws with vacant := fun e => absurd (h.state.symm.trans e) nofun
                escalated := fun _ => .inl h.state
                withheld := nofun }

/-- R3, R145, R148: an isolated record. -/
theorem SectionRec.Requesting.isolate (h : r.Requesting) : r.isolate.Laws :=
  { h.laws with
    vacant := nofun
    phases := fun _ => h.laws.phases (SectionRec.latched.live (.inl h.state))
    cause := ⟨fun _ => .inr rfl, fun _ => h.laws.cause.mpr (.inl h.state)⟩
    confirmEpoch := ⟨fun _ => .inr rfl, fun _ => h.laws.confirmEpoch.mpr (.inl h.state)⟩
    mark := ⟨fun e => absurd rfl e, nofun⟩
    escalated := fun _ => .inr rfl
    withheld := nofun
    settle := ⟨nofun, nofun⟩
    settleMax := Nat.zero_le _
    noHit := by rintro (e | e | e | e) <;> cases e }

theorem SectionRec.Requesting.isolateEscalated (h : r.Requesting) : r.isolateEscalated.Laws :=
  { h.isolate with vacant := nofun, escalated := fun _ => .inr rfl, withheld := nofun }

/-! ### Commands -/

theorem SectionRec.vacant_laws : SectionRec.vacant.Laws where
  vacant _ := rfl
  phases h := absurd rfl h
  cause := by simp [SectionRec.vacant, SectionRec.latched]
  confirmEpoch := by simp [SectionRec.vacant, SectionRec.latched]
  mark := by simp [SectionRec.vacant]
  escalated := nofun
  withheld := nofun
  settle := by simp [SectionRec.vacant]
  settleMax := Nat.zero_le _
  absent ph _ := by simp [SectionRec.vacant]
  range ph := by simp [SectionRec.vacant]
  firstHit _ ph := by simp [SectionRec.vacant]
  noHit _ := rfl

/-- R15: the record that CREATE SECTION makes. -/
theorem SectionRec.created_laws {n : NodeIx} {z : ZoneIx} {s : PhaseSet} {pr : ProfIx} (h : s ≠ PhaseSet.none) :
    (SectionRec.created n z s pr).Laws := by
  refine SectionRec.Placeable.laws ⟨h, rfl, rfl, rfl, rfl, fun ph _ => ?_, fun ph => ?_⟩ ?_ rfl rfl rfl ?_
    (Nat.zero_le _)
  · simp [SectionRec.created, SectionRec.vacant]
  · simp [SectionRec.created, SectionRec.vacant]
  · simp [SectionRec.unlatched_iff, SectionRec.created]
  · simp [SectionRec.created, SectionRec.vacant]

/-- R13, R17, R20: taps as written are lawful. -/
theorem SectionRec.Laws.writeTaps (h : r.Laws) (t : PerPhase Half) (hr : r.live) : (r.writeTaps t).Laws :=
  { h with
    vacant := fun e => absurd e hr
    absent := fun ph k => by
      have hk : r.phases.get ph = false := k
      obtain ⟨ht, hs⟩ := h.absent ph k
      exact ⟨by simp [SectionRec.writeTaps, hk, ht], hs⟩
    range := fun ph => by
      obtain ⟨ho, hl, ht⟩ := h.range ph
      refine ⟨ho, hl, ?_⟩
      simp only [SectionRec.writeTaps, PerPhase.get_ofFn, clampTap, Config.currentMax]
      split
      · exact Nat.min_le_left _ _
      · exact ht }

/-- R17: the record that EDIT SECTION leaves. -/
theorem SectionRec.Laws.edited (h : r.Laws) (t : PerPhase Half) (new : List NodeIx) (hr : r.live) :
    SectionRec.Laws { r.writeTaps t with downstream := new } :=
  { h.writeTaps t hr with vacant := fun e => absurd e hr }

/-- R20, R21: a tuned record, where it goes. -/
theorem SectionRec.Laws.afterTune (h : r.Laws) (pr : ProfIx) (t : PerPhase Half) (hr : r.unlatched)
    (hp : ∀ k, (profiles.get k).lawful) : ((r.tuned pr t).afterTune (profiles.get pr)).Laws := by
  have tuned : (r.tuned pr t).Laws := { h.writeTaps t hr.1 with vacant := fun e => absurd e hr.1 }
  have hu : (r.tuned pr t).unlatched := hr
  rcases (r.tuned pr t).afterTune_cases (profiles.get pr) with e | ⟨e, -⟩
  · rw [e]; exact tuned
  · rw [e]; exact (SectionRec.Entered.settling pr).laws (tuned.placeable hu) hp

/-- R19: a recalled record. -/
theorem SectionRec.Laws.recall (h : r.Laws) (hr : r.unlatched) : r.recall.Laws :=
  let placed := h.placeable hr
  SectionRec.Placeable.laws ⟨placed.1, placed.2, placed.3, placed.4, placed.5, placed.6, placed.7⟩
    (by simp [SectionRec.unlatched_iff, SectionRec.recall, SectionRec.enterDraft]) rfl rfl rfl
    (by simp [SectionRec.recall, SectionRec.enterDraft]) (Nat.zero_le _)

end

end Sys2Proof.Machine

/-! ## The trip laws through trips, edges and closes

The laws of records, zones and cause lists (`Device.tripsLawful`) are carried in two halves. `Device.LawfulBut`
holds the records, the lists and the sequencers, with the trip requests of some records still in hand.
`Device.Orderly` says what an operation does to the rest: a sequencer starts only under a closed breaker, and a
mark WITHHELD is given only where the trip enable is off. -/

namespace Sys2Proof.Machine

/-- R137, R139: what a zone holds in each sequencer state, the breaker left aside. -/
def Zone.seqLawful (y : Zone) : Prop :=
  match y.seq with
  | .idle => y.causes = [] ∧ y.manual = false ∧ y.timer = none
  | .tripping => y.timer.isSome
  | .hanging => y.causes = [] ∧ y.timer = none

theorem Zone.lawful_iff (y : Zone) : y.lawful ↔ y.seqLawful ∧ (y.seq ≠ .idle → y.isOpen = false) := by
  unfold Zone.lawful Zone.seqLawful
  cases y.seq <;> simp [and_assoc]

theorem Zone.seqLawful.causes {y : Zone} (h : y.seqLawful) (hs : y.seq ≠ .tripping) : y.causes = [] := by
  unfold Zone.seqLawful at h
  split at h
  · exact h.1
  · exact absurd ‹_› hs
  · exact h.1

/-- The sequencer law looks at four fields. -/
theorem Zone.seqLawful_of_eq {y u : Zone} (h : y.seqLawful) (hs : u.seq = y.seq) (hc : u.causes = y.causes)
    (hm : u.manual = y.manual) (ht : u.timer = y.timer) : u.seqLawful := by
  unfold Zone.seqLawful at h ⊢
  rwa [hs, hc, hm, ht]

theorem Zone.startTrip_seqLawful (y : Zone) (now : Moment) (l : List SecIx) (m : Bool) :
    (y.startTrip now l m).seqLawful := by simp [Zone.seqLawful, Zone.startTrip]

theorem Zone.endTrip_seqLawful (y : Zone) : y.endTrip.seqLawful := by simp [Zone.seqLawful, Zone.endTrip]

theorem Zone.hang_seqLawful (y : Zone) : y.hang.seqLawful := by simp [Zone.seqLawful, Zone.hang]

/-! ### Records, lists and sequencers -/

/-- R140: the laws of the records, the cause lists and the sequencers, but that the records of `l` are CONFIRMED,
have their trip requests in hand, and stand in no list. -/
structure Device.LawfulBut (p : Device) (l : List SecIx) : Prop where
  records : ∀ i, i ∉ l → (p.sections.get i).Laws
  requests : ∀ i ∈ l, (p.sections.get i).Requesting
  zones : ∀ z, (p.zones.get z).seqLawful
  nodup : ∀ z, (p.zones.get z).causes.Nodup
  listed : ∀ z i, i ∈ (p.zones.get z).causes ↔
    i ∉ l ∧ (p.sections.get i).state = .confirmed ∧ (p.sections.get i).mark = .pending
      ∧ (p.sections.get i).tripZone = z

namespace Device.LawfulBut

variable {p q : Device} {l : List SecIx}

/-- A record without a pending request moved to another such record, or left. -/
theorem of_unlisted (h : p.LawfulBut [])
    (hr : ∀ i, q.sections.get i = p.sections.get i
      ∨ (p.sections.get i).mark ≠ .pending ∧ (q.sections.get i).Laws ∧ (q.sections.get i).mark ≠ .pending)
    (hz : ∀ z, (q.zones.get z).seqLawful ∧ (q.zones.get z).causes = (p.zones.get z).causes) :
    q.LawfulBut [] where
  records i _ := by
    rcases hr i with e | ⟨-, k, -⟩
    · rw [e]; exact h.records i List.not_mem_nil
    · exact k
  requests i hi := by cases hi
  zones z := (hz z).1
  nodup z := by rw [(hz z).2]; exact h.nodup z
  listed z i := by
    rw [(hz z).2, h.listed z i]
    rcases hr i with e | ⟨k, -, k'⟩
    · rw [e]
    · simp [k, k']

/-- A zone written, its list kept. -/
theorem setZone (h : p.LawfulBut l) {z : ZoneIx} {y : Zone} (hy : y.seqLawful)
    (hc : y.causes = (p.zones.get z).causes) : (p.setZone z y).LawfulBut l := by
  have causes : ∀ w, ((p.setZone z y).zones.get w).causes = (p.zones.get w).causes := fun w => by
    rw [Device.setZone_zones, Table.get_set]
    split
    · rename_i e; rw [e]; exact hc
    · rfl
  refine ⟨h.records, h.requests, fun w => ?_, fun w => by rw [causes]; exact h.nodup w,
    fun w i => by rw [causes]; exact h.listed w i⟩
  rw [Device.setZone_zones, Table.get_set]
  split
  · exact hy
  · exact h.zones w

theorem latchOutcome (h : p.LawfulBut l) (z : ZoneIx) (o : OutcomeRec) : (p.latchOutcome z o).LawfulBut l :=
  h.setZone (Zone.seqLawful_of_eq (h.zones z) rfl rfl rfl rfl) rfl

theorem setSectionFlag (h : p.LawfulBut l) : p.setSectionFlag.LawfulBut l := ⟨h.1, h.2, h.3, h.4, h.5⟩

/-- Records that are CONFIRMED without a pending request may send one. -/
theorem request (h : p.LawfulBut [])
    (hl : ∀ i ∈ l, (p.sections.get i).state = .confirmed ∧ (p.sections.get i).mark ≠ .pending) :
    p.LawfulBut l where
  records i _ := h.records i List.not_mem_nil
  requests i hi := (h.records i List.not_mem_nil).requesting (hl i hi).1
  zones := h.zones
  nodup := h.nodup
  listed z i := by
    rw [h.listed z i]
    constructor
    · rintro ⟨-, hc, hm, hz⟩
      exact ⟨fun hi => (hl i hi).2 hm, hc, hm, hz⟩
    · rintro ⟨-, k⟩
      exact ⟨List.not_mem_nil, k⟩

/-- R109: a record confirmed, its request in hand. -/
theorem confirm (h : p.LawfulBut []) {i : SecIx} {r : SectionRec} (hi : (p.sections.get i).mark ≠ .pending)
    (hr : r.Requesting) : (p.setSection i r).LawfulBut [i] where
  records j hj := by
    rw [Device.setSection_sections, Table.get_set_of_ne _ _ (by simpa using hj)]
    exact h.records j List.not_mem_nil
  requests j hj := by
    rw [List.mem_singleton.mp hj, Device.setSection_sections, Table.get_set_self]
    exact hr
  zones := h.zones
  nodup := h.nodup
  listed z j := by
    rw [Device.setSection_zones, Device.setSection_sections, Table.get_set, h.listed z j]
    by_cases e : j = i
    · subst e; simp [hi]
    · simp [e]

/-- A zone's list emptied with its trip: the requests of the records on it are in hand again. -/
theorem unlist (h : p.LawfulBut []) {z : ZoneIx} {y : Zone} (hy : y.seqLawful) (hc : y.causes = []) :
    (p.setZone z y).LawfulBut (p.zones.get z).causes where
  records i _ := h.records i List.not_mem_nil
  requests i hi := (h.records i List.not_mem_nil).requesting ((h.listed z i).mp hi).2.1
  zones w := by
    rw [Device.setZone_zones, Table.get_set]
    split
    · exact hy
    · exact h.zones w
  nodup w := by
    rw [Device.setZone_zones, Table.get_set]
    split
    · rw [hc]; exact List.nodup_nil
    · exact h.nodup w
  listed w i := by
    rw [Device.setZone_zones, Device.setZone_sections, Table.get_set]
    split
    · rename_i e
      rw [hc, h.listed z i, e]
      constructor
      · intro hi; cases hi
      · rintro ⟨hn, k⟩; exact absurd ⟨List.not_mem_nil, k⟩ hn
    · rename_i e
      rw [h.listed w i, h.listed z i]
      constructor
      · rintro ⟨-, hc, hm, hz⟩
        exact ⟨fun k => e (hz.symm.trans k.2.2.2), hc, hm, hz⟩
      · rintro ⟨-, k⟩
        exact ⟨List.not_mem_nil, k⟩

/-- The requests in hand answered without a list: by a mark, or by isolation. -/
theorem answer (h : p.LawfulBut l) {f : SectionRec → SectionRec}
    (hf : ∀ i ∈ l, (f (p.sections.get i)).Laws ∧ (f (p.sections.get i)).mark ≠ .pending) :
    (p.mapListed l f).LawfulBut [] where
  records i _ := by
    rw [Device.mapListed_sections, Table.get_mapIdx]
    split
    · exact (hf i ‹_›).1
    · exact h.records i ‹_›
  requests i hi := by cases hi
  zones := h.zones
  nodup := h.nodup
  listed z i := by
    rw [Device.mapListed_zones, Device.mapListed_sections, Table.get_mapIdx, h.listed z i]
    split
    · rename_i hi
      simp [hi, (hf i hi).2]
    · rename_i hi
      simp [hi]

/-- R141, R142: the requests in hand answered by PENDING, the records joining a zone's list. -/
theorem join (h : p.LawfulBut l) (hl : l.Nodup) {f : SectionRec → SectionRec} {z : ZoneIx} {y : Zone}
    (hf : ∀ r : SectionRec, r.Requesting → (f r).Laws ∧ (f r).state = .confirmed ∧ (f r).mark = .pending)
    (hz : ∀ i ∈ l, (f (p.sections.get i)).tripZone = z) (hy : y.seqLawful)
    (hc : y.causes = (p.zones.get z).causes ++ l) : ((p.mapListed l f).setZone z y).LawfulBut [] where
  records i _ := by
    rw [Device.setZone_sections, Device.mapListed_sections, Table.get_mapIdx]
    split
    · exact (hf _ (h.requests i ‹_›)).1
    · exact h.records i ‹_›
  requests i hi := by cases hi
  zones w := by
    rw [Device.setZone_zones, Table.get_set]
    split
    · exact hy
    · exact h.zones w
  nodup w := by
    rw [Device.setZone_zones, Table.get_set]
    split
    · rw [hc]
      exact (h.nodup z).append hl fun i hi k => ((h.listed z i).mp hi).1 k
    · exact h.nodup w
  listed w i := by
    rw [Device.setZone_zones, Device.setZone_sections, Device.mapListed_sections, Table.get_mapIdx, Table.get_set]
    have joined : i ∈ l → (f (p.sections.get i)).state = .confirmed ∧ (f (p.sections.get i)).mark = .pending
        ∧ (f (p.sections.get i)).tripZone = z := fun hi =>
      ⟨(hf _ (h.requests i hi)).2.1, (hf _ (h.requests i hi)).2.2, hz i hi⟩
    by_cases hi : i ∈ l
    · obtain ⟨hs, hm, ht⟩ := joined hi
      rw [if_pos hi]
      split
      · rename_i e; simp [hc, hi, hs, hm, ht, e]
      · rename_i e
        rw [Device.mapListed_zones, h.listed w i]
        simp [hi, ht, Ne.symm e]
    · rw [if_neg hi]
      split
      · rename_i e
        rw [hc, List.mem_append, h.listed z i, e]
        simp [hi]
      · rw [Device.mapListed_zones, h.listed w i]
        simp [hi]

/-- R142, R146, R147: the answer FAILED. -/
theorem fail (h : p.LawfulBut l) : (p.mapListed l (SectionRec.withMark .failed)).LawfulBut [] :=
  h.answer fun i hi => ⟨(h.requests i hi).withMark nofun nofun, nofun⟩

/-- R145, R148: the answer by isolation. -/
theorem isolate (h : p.LawfulBut l) : (p.mapListed l SectionRec.isolate).LawfulBut [] :=
  h.answer fun i hi => ⟨(h.requests i hi).isolate, nofun⟩

/-- R142: an escalation answers every request sent with it. -/
theorem escalate (h : p.LawfulBut l) (hl : l.Nodup) : (p.escalate l).LawfulBut [] := by
  have join : ∀ {y : Zone}, y.seqLawful → y.causes = (p.zones.get 0).causes ++ l →
      ((p.mapListed l SectionRec.joinEscalated).setZone 0 y).LawfulBut [] := fun hy hc =>
    h.join hl (fun _ k => ⟨k.joinEscalated, k.state, rfl⟩) (fun _ _ => rfl) hy hc
  have zone := h.zones 0
  unfold Device.escalate
  split
  · split
    · rename_i hs
      refine join ?_ rfl
      unfold Zone.seqLawful at zone ⊢
      rw [hs] at zone
      simpa only [hs] using zone
    · rename_i hs
      split
      · exact (h.answer fun i hi => ⟨(h.requests i hi).isolateEscalated, nofun⟩).latchOutcome 0 _
      · refine join (Zone.startTrip_seqLawful _ _ _ _) ?_
        rw [zone.causes (by rw [hs]; exact nofun)]
        rfl
    · exact h.fail
  · exact h.fail

end Device.LawfulBut

/-- Changing the one record of a list is writing it. -/
theorem Device.mapListed_singleton (p : Device) (i : SecIx) (f : SectionRec → SectionRec) :
    p.mapListed [i] f = p.setSection i (f (p.sections.get i)) := by
  have e : (p.sections.mapIdx fun j r => if j ∈ [i] then f r else r)
      = p.sections.set i (f (p.sections.get i)) := by
    apply Table.eq_of_get
    intro j
    rw [Table.get_mapIdx, Table.get_set]
    by_cases h : j = i
    · subst h; simp
    · simp [h]
  unfold Device.mapListed Device.mapSections Device.setSection
  rw [e]

/-- R141: the answer to a trip request, that of a record not escalated. -/
theorem Device.LawfulBut.tripRequest {p : Device} {i : SecIx} (h : p.LawfulBut [i])
    (he : (p.sections.get i).escalated = false) : (p.tripRequest i).LawfulBut [] := by
  have request := h.requests i (List.mem_singleton.mpr rfl)
  have zone := h.zones (p.sections.get i).zone
  have write : ∀ {f : SectionRec → SectionRec}, (f (p.sections.get i)).Laws →
      (f (p.sections.get i)).mark ≠ .pending → (p.setSection i (f (p.sections.get i))).LawfulBut [] :=
    fun {f} hf hm => by
      rw [← Device.mapListed_singleton]
      exact h.answer fun j hj => by rw [List.mem_singleton.mp hj]; exact ⟨hf, hm⟩
  have join : ∀ {y : Zone}, y.seqLawful → y.causes = (p.zones.get (p.sections.get i).zone).causes ++ [i] →
      ((p.setSection i ((p.sections.get i).withMark .pending)).setZone (p.sections.get i).zone y).LawfulBut [] :=
    fun hy hc => by
      rw [← Device.mapListed_singleton p i (SectionRec.withMark .pending)]
      refine h.join (List.nodup_singleton i) (fun _ k => ⟨k.laws, k.state, rfl⟩) (fun j hj => ?_) hy hc
      rw [List.mem_singleton.mp hj]
      simp [SectionRec.tripZone, SectionRec.withMark, he]
  unfold Device.tripRequest
  dsimp only
  split
  · split
    · rename_i hs
      split
      · exact (write (f := SectionRec.isolate) request.isolate nofun).latchOutcome _ _
      · refine join (Zone.startTrip_seqLawful _ _ _ _) ?_
        rw [zone.causes (by rw [hs]; exact nofun)]
        rfl
    · rename_i hs
      refine join ?_ rfl
      unfold Zone.seqLawful at zone ⊢
      rw [hs] at zone
      simpa only [hs] using zone
    · split
      · exact h.escalate (List.nodup_singleton i)
      · exact write (f := SectionRec.withMark .failed) (request.withMark nofun nofun) nofun
  · exact write (f := SectionRec.withMark .withheld) (request.withMark nofun fun _ => he) nofun

/-! ### Breakers and marks WITHHELD -/

/-- What an operation does to a zone: breaker and trip enable stand, and a sequencer starts only under a closed
breaker. -/
structure Zone.Orderly (y u : Zone) : Prop where
  isOpen : u.isOpen = y.isOpen
  tripEnable : u.tripEnable = y.tripEnable
  busy : u.seq ≠ .idle → y.seq ≠ .idle ∨ y.isOpen = false

/-- What an operation does to the zones and to the marks WITHHELD: such a mark stood, or its zone's trip enable
is off. -/
structure Device.Orderly (p q : Device) : Prop where
  zones : ∀ z, (p.zones.get z).Orderly (q.zones.get z)
  withheld : ∀ i, (q.sections.get i).mark = .withheld →
    ((p.sections.get i).mark = .withheld ∧ (q.sections.get i).zone = (p.sections.get i).zone)
      ∨ (p.zones.get (q.sections.get i).zone).tripEnable = false

theorem Zone.Orderly.refl (y : Zone) : y.Orderly y := ⟨rfl, rfl, .inl⟩

theorem Zone.Orderly.trans {y u v : Zone} (h : y.Orderly u) (k : u.Orderly v) : y.Orderly v :=
  ⟨k.isOpen.trans h.isOpen, k.tripEnable.trans h.tripEnable,
    fun b => (k.busy b).elim h.busy fun c => .inr (h.isOpen.symm.trans c)⟩

namespace Device.Orderly

variable {o p q r : Device}

theorem refl (p : Device) : p.Orderly p := ⟨fun _ => .refl _, fun _ h => .inl ⟨h, rfl⟩⟩

theorem trans (h : p.Orderly q) (k : q.Orderly r) : p.Orderly r := by
  refine ⟨fun z => (h.zones z).trans (k.zones z), fun i hw => ?_⟩
  rcases k.withheld i hw with ⟨hq, hz⟩ | ht
  · rw [hz]
    exact h.withheld i hq
  · exact .inr ((h.zones _).tripEnable.symm.trans ht)

/-- Zones left, and no mark WITHHELD given. -/
theorem of_records (hz : q.zones = p.zones)
    (hs : ∀ i, q.sections.get i = p.sections.get i ∨ (q.sections.get i).mark ≠ .withheld) : p.Orderly q := by
  refine ⟨fun z => by rw [hz]; exact .refl _, fun i hw => ?_⟩
  rcases hs i with e | e
  · exact .inl ⟨by rwa [e] at hw, by rw [e]⟩
  · exact absurd hw e

theorem setSection {i : SecIx} {u : SectionRec} (hu : u.mark ≠ .withheld) : p.Orderly (p.setSection i u) := by
  refine of_records rfl fun j => ?_
  rw [Device.setSection_sections, Table.get_set]
  split
  · exact .inr hu
  · exact .inl rfl

theorem mapListed {l : List SecIx} {f : SectionRec → SectionRec} (hf : ∀ u, (f u).mark ≠ .withheld) :
    p.Orderly (p.mapListed l f) := by
  refine of_records rfl fun i => ?_
  rw [Device.mapListed_sections, Table.get_mapIdx]
  split
  · exact .inr (hf _)
  · exact .inl rfl

theorem setZone {z : ZoneIx} {y : Zone} (h : (p.zones.get z).Orderly y) : p.Orderly (p.setZone z y) := by
  refine ⟨fun w => ?_, fun i hw => .inl ⟨hw, rfl⟩⟩
  rw [Device.setZone_zones, Table.get_set]
  split
  · rename_i e; rw [e]; exact h
  · exact .refl _

theorem latchOutcome (p : Device) (z : ZoneIx) (o : OutcomeRec) : p.Orderly (p.latchOutcome z o) :=
  setZone ⟨rfl, rfl, .inl⟩

theorem foldl {α : Type} {f : Device → α → Device} (hf : ∀ (p : Device) a, p.Orderly (f p a)) (l : List α)
    (p : Device) : p.Orderly (l.foldl f p) := by
  induction l generalizing p with
  | nil => exact refl p
  | cons a l ih => exact (hf p a).trans (ih _)

end Device.Orderly

theorem Zone.startTrip_orderly {y : Zone} (now : Moment) (l : List SecIx) (m : Bool) (h : y.isOpen = false) :
    y.Orderly (y.startTrip now l m) := ⟨rfl, rfl, fun _ => .inr h⟩

theorem Zone.endTrip_orderly (y : Zone) : y.Orderly y.endTrip := ⟨rfl, rfl, fun h => absurd rfl h⟩

/-- R142. -/
theorem Device.escalate_orderly (p : Device) (l : List SecIx) : p.Orderly (p.escalate l) := by
  have failed : p.Orderly (p.mapListed l (SectionRec.withMark .failed)) := .mapListed fun _ => nofun
  have joined : p.Orderly (p.mapListed l SectionRec.joinEscalated) := .mapListed fun _ => nofun
  unfold Device.escalate
  split
  · split
    · exact joined.trans (.setZone ⟨rfl, rfl, .inl⟩)
    · split
      · exact Device.Orderly.trans (.mapListed (f := SectionRec.isolateEscalated) fun _ => nofun)
          (Device.Orderly.latchOutcome _ 0 _)
      · exact joined.trans (.setZone (Zone.startTrip_orderly _ _ _ (eq_false_of_ne_true ‹_›)))
    · exact failed
  · exact failed

/-- R141. -/
theorem Device.tripRequest_orderly (p : Device) (i : SecIx) : p.Orderly (p.tripRequest i) := by
  have pending : p.Orderly (p.setSection i ((p.sections.get i).withMark .pending)) := .setSection nofun
  unfold Device.tripRequest
  dsimp only
  split
  · split
    · split
      · exact Device.Orderly.trans (.setSection (u := (p.sections.get i).isolate) nofun)
          (Device.Orderly.latchOutcome _ _ _)
      · exact pending.trans (.setZone (Zone.startTrip_orderly _ _ _ (eq_false_of_ne_true ‹_›)))
    · exact pending.trans (.setZone ⟨rfl, rfl, .inl⟩)
    · split
      · exact p.escalate_orderly [i]
      · exact .setSection nofun
  · rename_i ht
    refine ⟨fun z => .refl _, fun j hw => ?_⟩
    rw [Device.setSection_sections, Table.get_set] at hw ⊢
    split
    · exact .inr (eq_false_of_ne_true ht)
    · rename_i e
      rw [if_neg e] at hw
      exact .inl ⟨hw, rfl⟩

/-- R136, R145, R148. -/
theorem Device.openEdge_orderly (p : Device) (z : ZoneIx) : p.Orderly (p.openEdge z) := by
  have parked : p.Orderly (p.mapSections fun _ r => r.openEdge z) := by
    refine ⟨fun _ => .refl _, fun i hw => .inl ?_⟩
    rw [Device.mapSections_sections, Table.get_mapIdx] at hw ⊢
    rcases (p.sections.get i).openEdge_cases z with e | ⟨e, -⟩
    · rw [e] at hw ⊢; exact ⟨hw, rfl⟩
    · rw [e] at hw ⊢; exact ⟨hw, rfl⟩
  have ended : ∀ (q : Device) l o, q.Orderly (((q.mapListed l SectionRec.isolate).latchOutcome z o).setZone z
      (((q.mapListed l SectionRec.isolate).latchOutcome z o).zones.get z).endTrip) := fun q l o =>
    Device.Orderly.trans (.mapListed (f := SectionRec.isolate) fun _ => nofun)
      (Device.Orderly.trans (.latchOutcome _ z o) (.setZone (Zone.endTrip_orderly _)))
  unfold Device.openEdge
  dsimp only
  split
  · exact parked
  · exact parked.trans (ended _ _ _)
  · exact parked.trans (ended _ _ _)

theorem Device.sectionFlagIf_orderly (p : Device) (b : Bool) : p.Orderly (p.sectionFlagIf b) :=
  .of_records (by simp) fun i => .inl (by simp)

/-- A record written with its zone and its mark kept. -/
theorem Device.setSection_orderly {p : Device} {i : SecIx} {u : SectionRec}
    (hn : (p.sections.get i).SameNames u) (hm : u.mark = (p.sections.get i).mark) (b : Bool) : p.Orderly ((p.setSection i u).sectionFlagIf b) := by
  refine Device.Orderly.trans (q := p.setSection i u) ⟨fun z => .refl _, fun j hw => .inl ?_⟩
    (Device.sectionFlagIf_orderly _ b)
  rw [Device.setSection_sections, Table.get_set] at hw ⊢
  split
  · rename_i e
    rw [if_pos e, hm] at hw
    rw [e, hn.zone]
    exact ⟨hw, rfl⟩
  · rename_i e
    rw [if_neg e] at hw
    exact ⟨hw, rfl⟩

/-- R137. -/
theorem Device.closeEdge_orderly (p : Device) (z : ZoneIx) : p.Orderly (p.closeEdge z) := by
  refine Device.Orderly.foldl (fun q i => ?_) _ p
  rcases Device.closeEdgeRecord_cases z q i with e | ⟨-, u, b, hu, e⟩
  · rw [e]; exact .refl q
  · rw [e]; exact Device.setSection_orderly hu.names hu.mark b

theorem Device.afterBreaker_orderly (p : Device) (z : ZoneIx) (was : Bool) : p.Orderly (p.afterBreaker z was) := by
  unfold Device.afterBreaker
  split
  · exact .refl p
  · split
    · exact p.openEdge_orderly z
    · exact p.closeEdge_orderly z

/-! ### Edges -/

section
variable {p : Device}

/-- R136: an open edge's moves into DORMANT. -/
theorem Device.LawfulBut.park (h : p.LawfulBut []) (z : ZoneIx) :
    (p.mapSections fun _ r => r.openEdge z).LawfulBut [] := by
  refine h.of_unlisted (fun i => ?_) fun z => ⟨h.zones z, rfl⟩
  rw [Device.mapSections_sections, Table.get_mapIdx]
  rcases (p.sections.get i).openEdge_cases z with e | ⟨e, hs⟩
  · exact .inl e
  · have laws := h.records i List.not_mem_nil
    have hu : (p.sections.get i).unlatched := by
      rw [SectionRec.unlatched_iff]; rcases hs with k | k | k <;> simp [k]
    have placed := laws.placeable hu
    have hm : (p.sections.get i).mark ≠ .pending := by rw [placed.mark]; exact nofun
    rw [e]
    refine .inr ⟨hm, ?_, hm⟩
    exact SectionRec.Placeable.laws ⟨placed.1, placed.2, placed.3, placed.4, placed.5, placed.6, placed.7⟩
      (by simp [SectionRec.unlatched_iff, SectionRec.enterDormant]) rfl rfl rfl (by simp [SectionRec.enterDormant])
      (Nat.zero_le _)

/-- R145, R148: a trip ended by an open breaker: the zone's list emptied, and the records of a list isolated. -/
theorem Device.LawfulBut.endTrip (z : ZoneIx) (l : List SecIx) (o : OutcomeRec)
    (h : (p.setZone z (p.zones.get z).endTrip).LawfulBut l) :
    (((p.mapListed l SectionRec.isolate).latchOutcome z o).setZone z
      (((p.mapListed l SectionRec.isolate).latchOutcome z o).zones.get z).endTrip).LawfulBut [] := by
  have e : ((p.mapListed l SectionRec.isolate).latchOutcome z o).setZone z
        (((p.mapListed l SectionRec.isolate).latchOutcome z o).zones.get z).endTrip
      = ((p.setZone z (p.zones.get z).endTrip).mapListed l SectionRec.isolate).latchOutcome z o := by
    simp [Device.setZone, Device.latchOutcome, Device.mapListed, Device.mapSections, Zone.endTrip]
  rw [e]
  exact h.isolate.latchOutcome z o

/-- R136, R145, R148: an open edge. -/
theorem Device.LawfulBut.openEdge (h : p.LawfulBut []) (z : ZoneIx) : (p.openEdge z).LawfulBut [] := by
  have parked := h.park z
  unfold Device.openEdge
  dsimp only
  split
  · exact parked
  · exact .endTrip z _ _ (parked.unlist (Zone.endTrip_seqLawful _) rfl)
  · rename_i hs
    refine .endTrip z _ _ ?_
    have none := (parked.zones z).causes (by rw [hs]; exact nofun)
    refine Device.LawfulBut.request (parked.setZone (Zone.endTrip_seqLawful _) none.symm) fun i hi => ?_
    simp only [Device.failedIn, List.mem_filter, Bool.and_eq_true, beq_iff_eq] at hi
    obtain ⟨-, ⟨hc, hm⟩, -⟩ := hi
    exact ⟨hc, by rw [Device.setZone_sections, hm]; exact nofun⟩

/-- After an open edge the zone is IDLE. -/
theorem Device.openEdge_idle (p : Device) (z : ZoneIx) : ((p.openEdge z).zones.get z).seq = .idle := by
  unfold Device.openEdge
  dsimp only
  split
  · exact ‹_›
  · simp [Device.endOpened, Zone.endTrip]
  · simp [Device.endLateOpen, Zone.endTrip]

theorem Device.LawfulBut.sectionFlagIf (h : p.LawfulBut []) (b : Bool) : (p.sectionFlagIf b).LawfulBut [] := by
  cases b
  · exact h
  · exact h.setSectionFlag

/-- A record with no mark written by another one with none. -/
theorem Device.LawfulBut.setSection (h : p.LawfulBut []) {i : SecIx} {u : SectionRec}
    (hi : (p.sections.get i).mark ≠ .pending) (hu : u.Laws) (hm : u.mark ≠ .pending) :
    (p.setSection i u).LawfulBut [] := by
  refine h.of_unlisted (fun j => ?_) fun z => ⟨h.zones z, rfl⟩
  rw [Device.setSection_sections, Table.get_set]
  split
  · rename_i e; rw [e]; exact .inr ⟨hi, hu, hm⟩
  · exact .inl rfl

/-- R6 to R8: a record placed. -/
theorem Device.LawfulBut.enter (h : p.LawfulBut []) (hp : p.profilesLawful) {i : SecIx} {r u : SectionRec}
    (hi : (p.sections.get i).mark ≠ .pending) (hr : r.Placeable) (hu : r.Entered p.profiles u) (b : Bool) :
    ((p.setSection i u).sectionFlagIf b).LawfulBut [] := by
  refine (h.setSection hi (hu.laws hr hp) ?_).sectionFlagIf b
  rw [hu.mark, hr.mark]; exact nofun

/-- R137: a close edge. -/
theorem Device.LawfulBut.closeEdge (h : p.LawfulBut []) (hp : p.profilesLawful) (z : ZoneIx) :
    (p.closeEdge z).LawfulBut [] := by
  have fold : ∀ (l : List SecIx) (q : Device), q.LawfulBut [] → q.profilesLawful →
      (l.foldl (Device.closeEdgeRecord z) q).LawfulBut [] := by
    intro l
    induction l with
    | nil => exact fun q h _ => h
    | cons i l ih =>
      intro q h hp
      rcases Device.closeEdgeRecord_cases z q i with e | ⟨hd, u, b, hu, e⟩
      · rw [List.foldl_cons, e]; exact ih q h hp
      · have placed := (h.records i List.not_mem_nil).placeable (by simp [SectionRec.unlatched_iff, hd])
        rw [List.foldl_cons, e]
        refine ih _ (h.enter hp (by rw [placed.mark]; exact nofun) placed hu b) ?_
        unfold Device.profilesLawful
        rwa [Device.sectionFlagIf_profiles]
  exact fold _ p h hp

theorem Device.LawfulBut.afterBreaker (h : p.LawfulBut []) (hp : p.profilesLawful) (z : ZoneIx) (was : Bool) :
    (p.afterBreaker z was).LawfulBut [] := by
  unfold Device.afterBreaker
  split
  · exact h
  · split
    · exact h.openEdge z
    · exact h.closeEdge hp z

/-- R137, R139: after the work of an edge every busy sequencer's breaker is CLOSED. -/
theorem Device.afterBreaker_closed {z : ZoneIx} {was : Bool}
    (hz : (p.zones.get z).isOpen = was → (p.zones.get z).seq ≠ .idle → (p.zones.get z).isOpen = false)
    (h : ∀ w, w ≠ z → (p.zones.get w).seq ≠ .idle → (p.zones.get w).isOpen = false) (w : ZoneIx)
    (hw : ((p.afterBreaker z was).zones.get w).seq ≠ .idle) :
    ((p.afterBreaker z was).zones.get w).isOpen = false := by
  have o := (p.afterBreaker_orderly z was).zones w
  rw [o.isOpen]
  refine (o.busy hw).elim (fun b => ?_) id
  by_cases e : w = z
  · subst e
    unfold Device.afterBreaker at hw
    split at hw
    · exact hz ‹_› b
    · split at hw
      · exact absurd (p.openEdge_idle w) hw
      · rename_i closed
        exact eq_false_of_ne_true closed
  · exact h w e b

end

end Sys2Proof.Machine

/-! ## Every step keeps the laws of sections, sequencers and cause lists (O58) -/

namespace Sys2Proof.Machine

/-- R137, R139, R143: a busy sequencer's breaker is CLOSED, and a mark WITHHELD has the trip enable off. -/
structure Device.BreakersLawful (p : Device) : Prop where
  closed : ∀ z, (p.zones.get z).seq ≠ .idle → (p.zones.get z).isOpen = false
  withheld : ∀ i, (p.sections.get i).mark = .withheld → (p.zones.get (p.sections.get i).zone).tripEnable = false

theorem Device.Orderly.breakers {p q : Device} (h : p.Orderly q) (k : p.BreakersLawful) : q.BreakersLawful where
  closed z hz := by
    rw [(h.zones z).isOpen]
    exact ((h.zones z).busy hz).elim (k.closed z) id
  withheld i hi := by
    rw [(h.zones _).tripEnable]
    rcases h.withheld i hi with ⟨hp, e⟩ | e
    · rw [e]; exact k.withheld i hp
    · exact e

/-- The trip laws in their two halves. -/
theorem Device.tripsLawful_iff (p : Device) : p.tripsLawful ↔ p.LawfulBut [] ∧ p.BreakersLawful := by
  constructor
  · rintro ⟨hr, hz, hn, hl, hw⟩
    exact ⟨⟨fun i _ => (SectionRec.lawful_iff _).mp (hr i), nofun, fun z => ((Zone.lawful_iff _).mp (hz z)).1, hn,
        fun z i => by rw [hl z i]; simp⟩, fun z => ((Zone.lawful_iff _).mp (hz z)).2, hw⟩
  · rintro ⟨⟨hr, -, hz, hn, hl⟩, hc, hw⟩
    exact ⟨fun i => (SectionRec.lawful_iff _).mpr (hr i List.not_mem_nil),
      fun z => (Zone.lawful_iff _).mpr ⟨hz z, hc z⟩, hn, fun z i => by rw [hl z i]; simp, hw⟩

theorem Device.tripsLawful_of_orderly {p q : Device} (h : p.tripsLawful) (ho : p.Orderly q) (hq : q.LawfulBut []) :
    q.tripsLawful :=
  q.tripsLawful_iff.mpr ⟨hq, ho.breakers (p.tripsLawful_iff.mp h).2⟩

/-- The trip laws, with the profiles that settling rests on. -/
def Device.KeepsTrips (p q : Device) : Prop := p.profilesLawful ∧ p.tripsLawful → q.profilesLawful ∧ q.tripsLawful

/-- An orderly operation that leaves the profiles keeps the trip laws when it keeps the records' half. -/
theorem Device.KeepsTrips.of_orderly {p q : Device} (ho : p.Orderly q) (hp : q.profiles = p.profiles)
    (h : p.profilesLawful → p.LawfulBut [] → q.LawfulBut []) : p.KeepsTrips q := by
  rintro ⟨hl, ht⟩
  refine ⟨?_, Device.tripsLawful_of_orderly ht ho (h hl (p.tripsLawful_iff.mp ht).1)⟩
  unfold Device.profilesLawful
  rwa [hp]

theorem Device.SameTables.orderly {p q : Device} (h : p.SameTables q) : p.Orderly q :=
  ⟨fun z => ⟨(h.zones z).isOpen, (h.zones z).tripEnable, fun b => .inl (by rwa [(h.zones z).seq] at b)⟩,
    fun i hw => .inl (by rw [h.sections] at hw ⊢; exact ⟨hw, rfl⟩)⟩

theorem Device.SameTables.lawfulBut {p q : Device} (h : p.SameTables q) (k : p.LawfulBut []) : q.LawfulBut [] :=
  k.of_unlisted (fun i => .inl (by rw [h.sections])) fun z =>
    ⟨Zone.seqLawful_of_eq (k.zones z) (h.zones z).seq (h.zones z).causes (h.zones z).manual (h.zones z).timer,
      (h.zones z).causes⟩

theorem Device.KeepsTrips.of_tables {p q : Device} (h : p.SameTables q) : p.KeepsTrips q :=
  .of_orderly h.orderly h.profiles fun _ => h.lawfulBut

theorem Device.SameButTrip.profiles_eq {p q : Device} (h : p.SameButTrip q) : q.profiles = p.profiles := by
  obtain ⟨-, -, -, -, -, -, profiles, -⟩ := h
  exact profiles

/-! ### Closes -/

theorem Device.RecordWorked.orderly {p q : Device} {i : SecIx} (hw : p.RecordWorked i q) : p.Orderly q := by
  cases hw with
  | left => exact .refl p
  | written b h => exact Device.setSection_orderly h.names h.mark b
  | @confirmed u cause e h =>
    have written : p.Orderly (p.setSection i (u.confirm cause e)).setSectionFlag :=
      Device.Orderly.trans (.setSection (u := u.confirm cause e) nofun) (Device.sectionFlagIf_orderly _ true)
    exact written.trans (Device.tripRequest_orderly _ i)

theorem Device.RecordWorked.lawfulBut {p q : Device} {i : SecIx} (hw : p.RecordWorked i q) (hp : p.profilesLawful)
    (h : p.LawfulBut []) : q.LawfulBut [] := by
  have laws := h.records i List.not_mem_nil
  have unmarked : (p.sections.get i).unlatched → (p.sections.get i).mark ≠ .pending := fun hu => by
    rw [(laws.placeable hu).mark]; exact nofun
  cases hw with
  | left => exact h
  | written b k =>
    refine (h.setSection (unmarked k.unlatched) (k.laws laws hp) ?_).sectionFlagIf b
    rw [k.mark]; exact unmarked k.unlatched
  | @confirmed u cause e k =>
    have hu : u.unlatched := (SectionRec.Worked.scored (profiles := p.profiles) k _ (by rw [k.state.1]; exact k.state.2)).left
    refine (h.confirm (unmarked k.unlatched) ((k.laws laws).confirm cause e hu)).setSectionFlag.tripRequest ?_
    rw [Device.setSectionFlag_sections, Device.setSection_sections, Table.get_set_self]
    rfl

/-- The work on closes keeps the trip laws. -/
theorem Device.KeepsTrips.workLaw : WorkLaw Device.KeepsTrips where
  refl _ := id
  trans h k := k ∘ h
  frame := .of_tables
  nodeWork c p := by
    obtain ⟨⟨-, -, -, -, hp, -⟩, -, hs, hz, -⟩ := p.nodeWork_kept c
    refine .of_orderly (.of_records hz fun i => .inl (by rw [hs])) hp fun _ h => ?_
    exact h.of_unlisted (fun i => .inl (by rw [hs])) fun z => by rw [hz]; exact ⟨h.zones z, rfl⟩
  recordWork c p i := by
    have hw := p.recordWork_worked c i
    exact .of_orderly hw.orderly (p.recordWork_sameButTrip c i).profiles_eq hw.lawfulBut

/-! ### Edges and timeouts -/

/-- R133 to R137: a breaker that reads otherwise, and the edge that this makes; the trip enable stands. -/
theorem Device.becomeStable_keepsTrips (p : Device) (z : ZoneIx) (level : Bool) :
    p.KeepsTrips (p.becomeStable z level) := by
  rintro ⟨hp, ht⟩
  obtain ⟨h, hb⟩ := p.tripsLawful_iff.mp ht
  let y : Zone := { p.zones.get z with stable := level, interval := none }
  have written : (p.setZone z y).LawfulBut [] := h.setZone (Zone.seqLawful_of_eq (h.zones z) rfl rfl rfl rfl) rfl
  have zone : (p.setZone z y).zones.get z = y := by simp
  have other : ∀ w, w ≠ z → (p.setZone z y).zones.get w = p.zones.get w := fun w hw => by
    rw [Device.setZone_zones, Table.get_set_of_ne _ _ hw]
  have enable : ∀ w, ((p.setZone z y).zones.get w).tripEnable = (p.zones.get w).tripEnable := fun w => by
    by_cases e : w = z
    · rw [e, zone]
    · rw [other w e]
  have edge := Device.afterBreaker_orderly (p.setZone z y) z (p.zones.get z).isOpen
  refine ⟨?_, (Device.tripsLawful_iff _).mpr ⟨written.afterBreaker hp z _, fun w => ?_, fun i hi => ?_⟩⟩
  · unfold Device.profilesLawful
    rwa [(p.becomeStable_sameButTrip z level).profiles_eq]
  · refine Device.afterBreaker_closed (fun e k => ?_) (fun w hw k => ?_) w
    · rw [zone] at e k ⊢
      rw [e]
      exact hb.closed z k
    · rw [other w hw] at k ⊢
      exact hb.closed w k
  · rw [show p.becomeStable z level = (p.setZone z y).afterBreaker z (p.zones.get z).isOpen from rfl] at hi ⊢
    rw [(edge.zones _).tripEnable]
    rcases edge.withheld i hi with ⟨hm, hz⟩ | he
    · rw [hz, enable]; exact hb.withheld i hm
    · exact he

/-- R146, R147: a timeout of a TRIPPING zone. -/
theorem Device.timeout_keepsTrips (p : Device) (z : ZoneIx) (hs : (p.zones.get z).seq = .tripping) :
    p.KeepsTrips (p.timeout z) := by
  have hp := (p.timeout_sameButTrip z).profiles_eq
  have hung : ∀ o, p.Orderly ((p.latchOutcome z o).setZone z ((p.latchOutcome z o).zones.get z).hang) := fun o =>
    Device.Orderly.trans (.latchOutcome p z o)
      (.setZone ⟨rfl, rfl, fun _ => .inl (by simp [hs])⟩)
  have requests : p.LawfulBut [] → ∀ o,
      ((p.latchOutcome z o).setZone z ((p.latchOutcome z o).zones.get z).hang).LawfulBut (p.zones.get z).causes :=
    fun h o => by
      have k := (h.latchOutcome z o).unlist (z := z) (Zone.hang_seqLawful ((p.latchOutcome z o).zones.get z)) rfl
      simpa using k
  unfold Device.timeout at hp ⊢
  dsimp only at hp ⊢
  split at hp
  · rw [if_pos ‹_›]
    exact .of_orderly ((hung _).trans (Device.escalate_orderly _ _)) hp fun _ h => (requests h _).escalate (h.nodup z)
  · rw [if_neg ‹_›]
    exact .of_orderly ((hung _).trans (.mapListed (f := SectionRec.withMark .failed) fun _ => nofun)) hp
      fun _ h => (requests h _).fail

theorem Device.KeepsTrips.eventLaw : EventLaw Device.KeepsTrips :=
  Device.KeepsTrips.workLaw.eventLaw Device.becomeStable_keepsTrips Device.timeout_keepsTrips

/-! ### Section commands -/

/-- One record without a pending request written by one without a mark. -/
theorem Device.KeepsTrips.set {p q : Device} {i : SecIx} {u : SectionRec} (hs : q.sections = p.sections.set i u)
    (hz : q.zones = p.zones) (hp : q.profiles = p.profiles)
    (h : p.profilesLawful → (p.sections.get i).Laws → (p.sections.get i).mark ≠ .pending ∧ u.Laws ∧ u.mark = .none) :
    p.KeepsTrips q := by
  rintro ⟨hl, ht⟩
  obtain ⟨k, -⟩ := p.tripsLawful_iff.mp ht
  obtain ⟨hi, hu, hm⟩ := h hl (k.records i List.not_mem_nil)
  have written : ∀ j, q.sections.get j = if j = i then u else p.sections.get j := fun j => by rw [hs, Table.get_set]
  refine Device.KeepsTrips.of_orderly (.of_records hz fun j => ?_) hp (fun _ _ => ?_) ⟨hl, ht⟩
  · rw [written]
    split
    · rw [hm]; exact .inr nofun
    · exact .inl rfl
  · refine k.of_unlisted (fun j => ?_) fun z => by rw [hz]; exact ⟨k.zones z, rfl⟩
    rw [written]
    split
    · rename_i e; rw [hm, e]; exact .inr ⟨hi, hu, nofun⟩
    · exact .inl rfl

theorem Device.KeepsTrips.refl (p : Device) : p.KeepsTrips p := id

/-- R8: a record placed. -/
theorem Device.KeepsTrips.place {p : Device} {i : SecIx} {r : SectionRec}
    (h : (p.sections.get i).Laws → (p.sections.get i).mark ≠ .pending ∧ r.Placeable) :
    p.KeepsTrips (p.place i r) := by
  obtain ⟨u, b, hu, e⟩ := p.place_cases i r
  rw [e]
  refine .set (i := i) (u := u) (by simp) (by simp) (by simp) fun hp k => ?_
  obtain ⟨hi, hr⟩ := h k
  exact ⟨hi, hu.laws hr hp, hu.mark.trans hr.mark⟩

theorem SectionRec.Laws.not_pending {r : SectionRec} (h : r.Laws) (hs : r.state ≠ .confirmed) : r.mark ≠ .pending := by
  rw [h.mark_none hs]; exact nofun

theorem Device.createSection_keepsTrips (p : Device) (sec up zone phs prof : Byte) :
    p.KeepsTrips (p.createSection sec up zone phs prof).1 := by
  rcases p.createSection_cases sec up zone phs prof with e | ⟨i, u, z, s, pr, hc, hs, e⟩
  · rw [e]; exact .refl p
  · rw [e]
    refine .set (i := i) (u := SectionRec.created u z s pr) rfl rfl rfl fun _ k => ?_
    exact ⟨k.not_pending (by simp [(Device.createCheck_none hc).1]), SectionRec.created_laws hs, rfl⟩

theorem Device.editSection_keepsTrips (p : Device) (sec n1 n2 n3 n4 : Byte) (ta tb tc : Half) :
    p.KeepsTrips (p.editSection sec n1 n2 n3 n4 ta tb tc).1 := by
  rcases p.editSection_cases sec n1 n2 n3 n4 ta tb tc with e | ⟨i, new, hd, -, -, e⟩
  · rw [e]; exact .refl p
  · rw [e]
    have hc : (p.sections.get i).state ≠ .confirmed := by simp [hd]
    refine .set (i := i)
      (u := { (p.sections.get i).writeTaps (tapFields ta tb tc) with downstream := new }) rfl rfl rfl fun _ k => ?_
    exact ⟨k.not_pending hc, k.edited _ _ (by simp [SectionRec.live, hd]), k.mark_none hc⟩

theorem Device.commitSection_keepsTrips (p : Device) (sec : Byte) : p.KeepsTrips (p.commitSection sec).1 := by
  rcases p.commitSection_cases sec with e | ⟨i, hd, e⟩
  · rw [e]; exact .refl p
  · rw [e]
    exact .place fun k => ⟨k.not_pending (by simp [hd]), k.placeable (by simp [SectionRec.unlatched_iff, hd])⟩

theorem Device.recallSection_keepsTrips (p : Device) (sec : Byte) : p.KeepsTrips (p.recallSection sec).1 := by
  rcases p.recallSection_cases sec with e | ⟨i, hr, e⟩
  · rw [e]; exact .refl p
  · rw [e]
    have hc := ((SectionRec.unlatched_iff _).mp hr).2.1
    exact .set (i := i) rfl rfl rfl fun _ k => ⟨k.not_pending hc, k.recall hr, k.mark_none hc⟩

theorem Device.tuneSection_keepsTrips (p : Device) (sec prof : Byte) (ta tb tc : Half) :
    p.KeepsTrips (p.tuneSection sec prof ta tb tc).1 := by
  rcases p.tuneSection_cases sec prof ta tb tc with e | ⟨i, pr, hr, e⟩
  · rw [e]; exact .refl p
  · rw [e]
    have hc := ((SectionRec.unlatched_iff _).mp hr).2.1
    refine .set (i := i) rfl rfl rfl fun hp k => ⟨k.not_pending hc, k.afterTune pr _ hr hp, ?_⟩
    rcases SectionRec.afterTune_cases (p.profiles.get pr) ((p.sections.get i).tuned pr (tapFields ta tb tc))
      with e | ⟨e, -⟩ <;> rw [e] <;> exact k.mark_none hc

theorem SectionRec.not_pending_of_acknowledgeable {r : SectionRec} (h : r.acknowledgeable = true) (k : r.Laws) :
    r.live ∧ r.mark ≠ .pending := by
  unfold SectionRec.acknowledgeable at h
  split at h
  · exact ⟨by simp [SectionRec.live, *], k.not_pending (by simp [*])⟩
  · exact ⟨by simp [SectionRec.live, *], k.not_pending (by simp [*])⟩
  · refine ⟨by simp [SectionRec.live, *], fun e => ?_⟩
    rw [e] at h
    exact absurd h (by decide)
  all_goals cases h

theorem Device.acknowledgeSection_keepsTrips (p : Device) (sec : Byte) : p.KeepsTrips (p.acknowledgeSection sec).1 := by
  rcases p.acknowledgeSection_cases sec with e | ⟨i, -, ha, e⟩
  · rw [e]; exact .refl p
  · rw [e]
    refine .place fun k => ?_
    obtain ⟨live, hm⟩ := SectionRec.not_pending_of_acknowledgeable ha k
    exact ⟨hm, k.acknowledged live⟩

theorem SectionRec.not_pending_of_retirable {r : SectionRec} (h : r.retirable = true) (k : r.Laws) :
    r.mark ≠ .pending := by
  by_cases hc : r.state = .confirmed
  · intro e
    simp [SectionRec.retirable, hc, e] at h
  · exact k.not_pending hc

theorem Device.retireSection_keepsTrips (p : Device) (sec : Byte) : p.KeepsTrips (p.retireSection sec).1 := by
  rcases p.retireSection_cases sec with e | ⟨i, -, hr, e⟩
  · rw [e]; exact .refl p
  · rw [e]
    exact .set (i := i) (u := SectionRec.vacant) rfl rfl rfl fun _ k =>
      ⟨SectionRec.not_pending_of_retirable hr k, SectionRec.vacant_laws, rfl⟩

/-- R86: a restart. -/
theorem Device.restart_keepsTrips (p : Device) : p.KeepsTrips p.restart.1 := by
  rcases p.restart_cases with e | e
  · rw [e]; exact .refl p
  rintro ⟨hp, ht⟩
  obtain ⟨h, -⟩ := p.tripsLawful_iff.mp ht
  have cases : ∀ i, let u := (p.sections.get i).restart (p.profileOf (p.sections.get i))
      u = p.sections.get i ∨ (p.sections.get i).mark ≠ .pending ∧ u.Laws ∧ u.mark = .none := fun i => by
    rcases (p.sections.get i).restart_cases (p.profileOf (p.sections.get i)) with e | ⟨e, hs⟩
    · exact .inl e
    · have hu : (p.sections.get i).unlatched := by
        rw [SectionRec.unlatched_iff]; rcases hs with k | k | k <;> simp [k]
      have laws := h.records i List.not_mem_nil
      have placed := laws.placeable hu
      dsimp only
      rw [e]
      exact .inr ⟨by rw [placed.mark]; exact nofun,
        (SectionRec.Entered.settling (p.sections.get i).profile).laws placed hp, placed.mark⟩
  refine Device.KeepsTrips.of_orderly (.of_records e.zones fun i => ?_) e.profiles (fun _ _ => ?_) ⟨hp, ht⟩
  · rw [e.sections]
    exact (cases i).imp_right fun ⟨_, _, hm⟩ => by rw [hm]; exact nofun
  · refine h.of_unlisted (fun i => ?_) fun z => by rw [e.zones]; exact ⟨h.zones z, rfl⟩
    rw [e.sections]
    exact (cases i).imp_right fun ⟨hi, hu, hm⟩ => ⟨hi, hu, by rw [hm]; exact nofun⟩

theorem Device.restartEvaluation_keepsTrips (p : Device) : p.KeepsTrips p.restartEvaluation.1 := fun h =>
  Device.restart_keepsTrips _ (Device.KeepsTrips.eventLaw.finishWork p h)

/-! ### Zone commands -/

theorem Device.tripZone_keepsTrips (p : Device) (zone : Byte) : p.KeepsTrips (p.tripZone zone).1 := by
  rcases p.tripZone_cases zone with e | ⟨z, ⟨-, -, e⟩ | ⟨hs, ho, e⟩ | ⟨hs, e⟩⟩
  · rw [e]; exact .refl p
  · rw [e]; exact .of_tables (Device.setZone_sameTables ⟨rfl, rfl, rfl, rfl, rfl, rfl⟩)
  · rw [e]
    refine .of_orderly (.setZone (Zone.startTrip_orderly _ _ _ ho)) rfl fun _ h => ?_
    exact h.setZone (Zone.startTrip_seqLawful _ _ _ _) ((h.zones z).causes (by rw [hs]; exact nofun)).symm
  · rw [e]
    refine .of_orderly (.setZone ⟨rfl, rfl, .inl⟩) rfl fun _ h => h.setZone ?_ rfl
    have k := h.zones z
    unfold Zone.seqLawful at k ⊢
    rw [hs] at k
    simpa only [hs] using k

theorem Device.releaseTrip_keepsTrips (p : Device) (zone : Byte) : p.KeepsTrips (p.releaseTrip zone).1 := by
  rcases p.releaseTrip_cases zone with e | ⟨z, hs, e⟩
  · rw [e]; exact .refl p
  · rw [e]
    refine .of_orderly (.setZone (Zone.endTrip_orderly _)) rfl fun _ h => ?_
    exact h.setZone (Zone.endTrip_seqLawful _) ((h.zones z).causes (by rw [hs]; exact nofun)).symm

/-- R141: with the trip enable on, a request leaves no mark WITHHELD. -/
theorem Device.tripRequest_mark {p : Device} {i : SecIx}
    (h : (p.zones.get (p.sections.get i).zone).tripEnable = true) :
    ((p.tripRequest i).sections.get i).mark ≠ .withheld := by
  have escalated : ((p.escalate [i]).sections.get i).mark ≠ .withheld := by
    have joined : ∀ f : SectionRec → SectionRec, ((p.mapListed [i] f).sections.get i) = f (p.sections.get i) :=
      fun f => by simp
    unfold Device.escalate
    split
    · split
      · rw [Device.setZone_sections, joined]; exact nofun
      · split
        · rw [Device.latchOutcome_sections, joined]; exact nofun
        · rw [Device.setZone_sections, joined]; exact nofun
      · rw [joined]; exact nofun
    · rw [joined]; exact nofun
  unfold Device.tripRequest
  dsimp only
  rw [if_pos h]
  split
  · split
    · simp [SectionRec.isolate]
    · simp [SectionRec.withMark]
  · simp [SectionRec.withMark]
  · split
    · exact escalated
    · simp [SectionRec.withMark]

/-- R143: where the release of zone `z`'s requests stands, `rest` still to come: the marks WITHHELD of that zone
are of records still to come. -/
structure Device.Releasing (z : ZoneIx) (rest : List SecIx) (p : Device) : Prop where
  trips : p.LawfulBut []
  closed : ∀ w, (p.zones.get w).seq ≠ .idle → (p.zones.get w).isOpen = false
  enable : (p.zones.get z).tripEnable = true
  withheld : ∀ i, (p.sections.get i).mark = .withheld →
    (p.zones.get (p.sections.get i).zone).tripEnable = false ∨ (p.sections.get i).zone = z ∧ i ∈ rest

theorem Device.Releasing.next {z : ZoneIx} {i : SecIx} {rest : List SecIx} {p : Device}
    (h : p.Releasing z (i :: rest)) : (Device.releaseRecord z p i).Releasing z rest := by
  have laws := h.trips.records i List.not_mem_nil
  unfold Device.releaseRecord
  split
  · rename_i hi
    obtain ⟨hc, hm, hz⟩ := hi
    have o := p.tripRequest_orderly i
    have request : p.LawfulBut [i] := h.trips.request fun j hj => by
      rw [List.mem_singleton.mp hj]; exact ⟨hc, by rw [hm]; exact nofun⟩
    refine ⟨request.tripRequest (laws.withheld hm), fun w hw => ?_, ?_, fun j hj => ?_⟩
    · rw [(o.zones w).isOpen]
      exact ((o.zones w).busy hw).elim (h.closed w) id
    · rw [(o.zones z).tripEnable]; exact h.enable
    · rw [(o.zones _).tripEnable]
      rcases o.withheld j hj with ⟨k, e⟩ | k
      · rw [e]
        rcases h.withheld j k with k | ⟨kz, kr⟩
        · exact .inl k
        · rcases List.mem_cons.mp kr with rfl | kr
          · exact absurd hj (Device.tripRequest_mark (by rw [hz]; exact h.enable))
          · exact .inr ⟨kz, kr⟩
      · exact .inl k
  · rename_i hi
    refine ⟨h.trips, h.closed, h.enable, fun j hj => ?_⟩
    rcases h.withheld j hj with k | ⟨kz, kr⟩
    · exact .inl k
    · rcases List.mem_cons.mp kr with rfl | kr
      · exact absurd ⟨laws.mark.mp (by rw [hj]; exact nofun), hj, kz⟩ hi
      · exact .inr ⟨kz, kr⟩

theorem Device.Releasing.all {z : ZoneIx} (rest : List SecIx) {p : Device} (h : p.Releasing z rest) :
    (rest.foldl (Device.releaseRecord z) p).Releasing z [] := by
  induction rest generalizing p with
  | nil => exact h
  | cons i rest ih => exact ih h.next

/-- R131: the settings of a zone written, the edge that they make, and the requests that they release. -/
theorem Device.applyZone_tripsLawful {p : Device} (hp : p.profilesLawful) (ht : p.tripsLawful) (z : ZoneIx)
    (c : ZoneSettings) : (p.applyZone z c).tripsLawful := by
  obtain ⟨h, hb⟩ := p.tripsLawful_iff.mp ht
  let y := (p.zones.get z).withSettings c
  have written : (p.setZone z y).LawfulBut [] := h.setZone (Zone.seqLawful_of_eq (h.zones z) rfl rfl rfl rfl) rfl
  have zone : (p.setZone z y).zones.get z = y := by simp
  have other : ∀ w, w ≠ z → (p.setZone z y).zones.get w = p.zones.get w := fun w hw => by
    rw [Device.setZone_zones, Table.get_set_of_ne _ _ hw]
  let q := (p.setZone z y).afterBreaker z (p.zones.get z).isOpen
  have edge : (p.setZone z y).Orderly q := Device.afterBreaker_orderly _ z _
  have trips : q.LawfulBut [] := written.afterBreaker hp z _
  have closed : ∀ w, (q.zones.get w).seq ≠ .idle → (q.zones.get w).isOpen = false := fun w => by
    refine Device.afterBreaker_closed (fun e k => ?_) (fun w hw k => ?_) w
    · rw [zone] at e k ⊢
      rw [e]
      exact hb.closed z k
    · rw [other w hw] at k ⊢
      exact hb.closed w k
  have enable : (q.zones.get z).tripEnable = c.tripEnable := by rw [(edge.zones z).tripEnable, zone]; rfl
  have withheld : ∀ i, (q.sections.get i).mark = .withheld →
      (q.zones.get (q.sections.get i).zone).tripEnable = false
        ∨ (q.sections.get i).zone = z ∧ (p.zones.get z).tripEnable = false := fun i hi => by
    rw [(edge.zones _).tripEnable]
    rcases edge.withheld i hi with ⟨hm, hz⟩ | he
    · rw [hz]
      have off := hb.withheld i hm
      by_cases e : (p.sections.get i).zone = z
      · exact .inr ⟨e, by rwa [e] at off⟩
      · exact .inl (by rw [Device.setZone_sections, other _ e]; exact off)
    · exact .inl he
  have apply : p.applyZone z c =
      if (p.zones.get z).tripEnable = false ∧ c.tripEnable then q.releaseWithheld z else q := rfl
  rw [apply, Device.tripsLawful_iff]
  split
  · rename_i on
    have start : q.Releasing z (List.finRange 128) :=
      ⟨trips, closed, enable.trans on.2, fun i hi => (withheld i hi).imp_right fun k => ⟨k.1, List.mem_finRange i⟩⟩
    have done := start.all
    exact ⟨done.trips, done.closed, fun i hi => (done.withheld i hi).resolve_right fun k => List.not_mem_nil k.2⟩
  · rename_i off
    refine ⟨trips, closed, fun i hi => ?_⟩
    rcases withheld i hi with k | ⟨e, k⟩
    · exact k
    · rw [e, enable]
      exact eq_false_of_ne_true fun on => off ⟨k, on⟩

/-! ### Every row -/

/-- Every law of records and zones holds after a reset. -/
theorem Device.afterReset_tripsLawful (pins : ResetPins) (profiles : Table Profile 8) (now choices : Nat) :
    (Device.afterReset pins profiles now choices).tripsLawful := by
  have record : ∀ i, (Device.afterReset pins profiles now choices).sections.get i = .vacant := fun i => by
    simp [Device.afterReset]
  have zone : ∀ z, (Device.afterReset pins profiles now choices).zones.get z = .afterReset (pins.brk.getLsbD z.val) :=
    fun z => by simp [Device.afterReset]
  rw [Device.tripsLawful_iff]
  refine ⟨⟨fun i _ => by rw [record]; exact SectionRec.vacant_laws, nofun, fun z => ?_, fun z => ?_, fun z i => ?_⟩,
    fun z => ?_, fun i => ?_⟩
  · rw [zone]; exact ⟨rfl, rfl, rfl⟩
  · rw [zone]; exact List.nodup_nil
  · rw [zone, record]
    simp [Zone.afterReset, SectionRec.vacant]
  · rw [zone]; exact fun h => absurd rfl h
  · rw [record]; exact nofun

theorem State.answered_tripsLawful {s : State} {d : Device} {r : List Byte} (h : d.tripsLawful) :
    (s.answered d r).device.tripsLawful := by
  unfold Device.tripsLawful Device.causesLawful at h ⊢
  simpa using h

/-- A command that keeps the trip laws still does once it is answered. -/
theorem Device.KeepsTrips.answered {s : State} (a : Answer) (h : s.device.KeepsTrips a.1)
    (hp : s.device.profilesLawful) (ht : s.device.tripsLawful) : (s.answered a.1 a.2).device.tripsLawful :=
  State.answered_tripsLawful (h ⟨hp, ht⟩).2

/-- The trip laws look at records and zones alone. -/
theorem Device.tripsLawful_of_eq {p q : Device} (h : p.tripsLawful) (hs : q.sections = p.sections)
    (hz : q.zones = p.zones) : q.tripsLawful := by
  unfold Device.tripsLawful Device.causesLawful at h ⊢
  rwa [hs, hz]

theorem Device.loadProfile_zones (p : Device) (index : Byte) (sent : Profile) :
    (p.loadProfile index sent).1.zones = p.zones := by
  unfold Device.loadProfile
  split <;> rfl

theorem Device.clearStranger_sameTables (p : Device) (slot : Byte) : p.SameTables (p.clearStranger slot).1 := by
  unfold Device.clearStranger
  split <;> exact .of_eq rfl rfl rfl rfl

theorem Device.bindNode_keepsTrips (p : Device) (node : Byte) (addr : Addr) (phs : Byte) :
    p.KeepsTrips (p.bindNode node addr phs).1 := by
  rcases p.bindNode_cases node addr phs with e | ⟨n, s, -, -, -, e⟩
  · rw [e]; exact .refl p
  · rw [e]; exact fun h => ⟨h.1, Device.tripsLawful_of_eq h.2 rfl rfl⟩

theorem Device.unbindNode_keepsTrips (p : Device) (node : Byte) : p.KeepsTrips (p.unbindNode node).1 := by
  intro h
  have k := Device.KeepsTrips.eventLaw.finishWork p h
  unfold Device.unbindNode
  rcases p.finishWork.unbind_cases node with e | ⟨n, -, e⟩
  · rw [e]; exact k
  · rw [e]; exact ⟨k.1, Device.tripsLawful_of_eq k.2 rfl rfl⟩

/-- Every row keeps the trip laws. -/
theorem exec_keepsTrips {s t : State} {c : Instr} (h : exec c s = .next t) (hp : s.device.profilesLawful)
    (ht : s.device.tripsLawful) : t.device.tripsLawful := by
  have answered : ∀ a : Answer, s.device.KeepsTrips a.1 → (s.answered a.1 a.2).device.tripsLawful := fun a k =>
    Device.KeepsTrips.answered a k hp ht
  by_cases hw : writesTable c
  · cases c with
    | powerOnReset | rstNReset => cases h; exact Device.afterReset_tripsLawful _ _ _ _
    | restartEvaluation => cases h; exact answered _ s.device.restartEvaluation_keepsTrips
    | loadProfile =>
      cases h
      refine State.answered_tripsLawful ?_
      exact (Device.tripsLawful_of_eq ht (Device.loadProfile_sections _ _ _) (Device.loadProfile_zones _ _ _))
    | bindNode => cases h; exact answered _ (Device.bindNode_keepsTrips _ _ _ _)
    | unbindNode => cases h; exact answered _ (Device.unbindNode_keepsTrips _ _)
    | clearStranger => cases h; exact answered _ (.of_tables (Device.clearStranger_sameTables _ _))
    | createSection => cases h; exact answered _ (Device.createSection_keepsTrips _ _ _ _ _ _)
    | editSection => cases h; exact answered _ (Device.editSection_keepsTrips _ _ _ _ _ _ _ _ _)
    | commitSection => cases h; exact answered _ (Device.commitSection_keepsTrips _ _)
    | recallSection => cases h; exact answered _ (Device.recallSection_keepsTrips _ _)
    | tuneSection => cases h; exact answered _ (Device.tuneSection_keepsTrips _ _ _ _ _ _)
    | acknowledgeSection => cases h; exact answered _ (Device.acknowledgeSection_keepsTrips _ _)
    | retireSection => cases h; exact answered _ (Device.retireSection_keepsTrips _ _)
    | setZone zone hz te ee tmo db pol =>
      cases h
      rcases s.device.setZoneCommand_cases zone hz te ee tmo db pol with e | ⟨z, c, e⟩
      · exact State.answered_tripsLawful (by rw [e]; exact ht)
      · exact State.answered_tripsLawful (by rw [e]; exact Device.applyZone_tripsLawful hp ht z c)
    | tripZone => cases h; exact answered _ (Device.tripZone_keepsTrips _ _)
    | releaseTrip => cases h; exact answered _ (Device.releaseTrip_keepsTrips _ _)
    | _ => exact absurd hw id
  · exact (Device.KeepsTrips.eventLaw.exec h hw ⟨hp, ht⟩).2

/-- Settles O58: the row at the front of the queue keeps the trip laws, and so does the part's own work. -/
theorem everyStepKeepsSectionAndTripLaws : Obligations.EveryStepKeepsSectionAndTripLaws := by
  intro s t h hp ht
  rcases step_cases h with ⟨c, q, -, hc⟩ | ⟨-, rfl⟩
  · exact exec_keepsTrips hc hp ht
  · exact (Device.KeepsTrips.eventLaw.idle s ⟨hp, ht⟩).2

end Sys2Proof.Machine

/-! ## Names, bindings and strangers (O57)

R9, R10, R33, R39, R48, R49, R91: which node stands where. -/

namespace Sys2Proof.Machine

/-! ### What depends on names and bindings alone -/

/-- Which nodes are named by which live records stands, and so does each node's binding. -/
structure Device.SameNaming (p q : Device) : Prop where
  names : ∀ i, (p.sections.get i).SameNames (q.sections.get i)
  live : ∀ i, (q.sections.get i).live ↔ (p.sections.get i).live
  causes : q.causesLive
  nodes : ∀ n, (p.nodes.get n).Follows (q.nodes.get n)

theorem Device.Follows.sameNaming {p q : Device} (h : p.Follows q) (l : p.causesLive) : p.SameNaming q :=
  ⟨fun i => (h.records i).names, fun i => ⟨h.vacant l i, (h.records i).live⟩, h.causes l, h.nodes⟩

/-- The laws of nodes, topology and strangers, with the cause lists naming live records. -/
structure Device.NamesLawful (p : Device) : Prop where
  causes : p.causesLive
  nodes : p.nodesLawful
  topology : p.topologyLawful
  strangers : p.strangersLawful

/-- R39: a record is live and names the node. -/
def SectionRec.namesNode (r : SectionRec) (n : NodeIx) : Bool := r.state != .vacant && decide (n ∈ r.nodes)

theorem Device.timesNamed_eq (p : Device) (n : NodeIx) :
    p.timesNamed n = (List.finRange 128).countP fun i => (p.sections.get i).namesNode n := rfl

theorem SectionRec.namesNode_iff (r : SectionRec) (n : NodeIx) :
    r.namesNode n = true ↔ r.live ∧ (n = r.upstream ∨ n ∈ r.downstream) := by
  simp [SectionRec.namesNode, SectionRec.live, SectionRec.nodes]

theorem Device.timesNamed_congr {p q : Device} {n : NodeIx}
    (h : ∀ i, (q.sections.get i).namesNode n = (p.sections.get i).namesNode n) :
    q.timesNamed n = p.timesNamed n := by
  rw [Device.timesNamed_eq, Device.timesNamed_eq]
  exact List.countP_congr fun i _ => by rw [h i]

section
variable {p q : Device}

theorem Device.SameNaming.timesNamed (h : p.SameNaming q) (n : NodeIx) : q.timesNamed n = p.timesNamed n := by
  refine Device.timesNamed_congr fun i => ?_
  rw [Bool.eq_iff_iff, SectionRec.namesNode_iff, SectionRec.namesNode_iff, h.live i, (h.names i).upstream,
    (h.names i).downstream]

theorem Device.nodesLawful_of_follows (h : ∀ n, (p.nodes.get n).Follows (q.nodes.get n)) (k : p.nodesLawful) :
    q.nodesLawful := by
  obtain ⟨unbound, phases, miss, addr⟩ := k
  refine ⟨fun n hn => (h n).unbound (unbound n ?_), fun n hn => ?_, fun n => (h n).miss (miss n), fun m n hm hn e => ?_⟩
  · rwa [(h n).bound] at hn
  · rw [(h n).bound] at hn
    rw [(h n).phases]
    exact phases n hn
  · rw [(h m).bound] at hm
    rw [(h n).bound] at hn
    rw [(h m).addr, (h n).addr] at e
    exact addr m n hm hn e

theorem Device.SameNaming.topologyLawful (h : p.SameNaming q) (k : p.topologyLawful) : q.topologyLawful := by
  obtain ⟨bound, upstream, list, downstream, refs⟩ := k
  refine ⟨fun i hi n hn => ?_, fun i j hi hj e => ?_, fun i hi => ?_, fun i j hi hj n hn hm => ?_, fun n => ?_⟩
  · rw [(h.nodes n).bound, (h.nodes n).phases, (h.names i).phases]
    rw [(h.names i).nodes] at hn
    exact bound i ((h.live i).mp hi) n hn
  · rw [(h.names i).upstream, (h.names j).upstream] at e
    exact upstream i j ((h.live i).mp hi) ((h.live j).mp hj) e
  · rw [(h.names i).nodes, (h.names i).downstream]
    exact list i ((h.live i).mp hi)
  · rw [(h.names i).downstream] at hn
    rw [(h.names j).downstream] at hm
    exact downstream i j ((h.live i).mp hi) ((h.live j).mp hj) n hn hm
  · rw [(h.nodes n).refs, h.timesNamed]
    exact refs n

/-- The Stranger Slots stand beside bindings that stand. -/
theorem Device.strangersLawful_of_bindings (hs : q.strangers = p.strangers) (ho : q.overwrites = p.overwrites)
    (hb : ∀ n, (q.nodes.get n).bound = true →
      (p.nodes.get n).bound = true ∧ (q.nodes.get n).addr = (p.nodes.get n).addr)
    (h : p.strangersLawful) : q.strangersLawful := by
  obtain ⟨overwrites, sightings, distinct⟩ := h
  refine ⟨by rw [ho]; exact overwrites, fun k g hg => ?_, fun k l g g' hg hg' => ?_⟩
  · rw [hs] at hg
    obtain ⟨count, phases, unbound⟩ := sightings k g hg
    refine ⟨count, phases, fun n hn => ?_⟩
    rw [(hb n hn).2]
    exact unbound n (hb n hn).1
  · rw [hs] at hg hg'
    exact distinct k l g g' hg hg'

theorem Device.SameNaming.namesLawful (h : p.SameNaming q) (hs : q.strangers = p.strangers)
    (ho : q.overwrites = p.overwrites) (k : p.NamesLawful) : q.NamesLawful where
  causes := h.causes
  nodes := Device.nodesLawful_of_follows h.nodes k.nodes
  topology := h.topologyLawful k.topology
  strangers := Device.strangersLawful_of_bindings hs ho
    (fun n hn => ⟨by rwa [(h.nodes n).bound] at hn, (h.nodes n).addr⟩) k.strangers

end

/-! ### Counting names -/

/-- Counting over a table when the test changes at one index. -/
theorem countP_finRange_update {n : Nat} (i : Fin n) {f g : Fin n → Bool} (h : ∀ j, j ≠ i → f j = g j) :
    (List.finRange n).countP f + (g i).toNat = (List.finRange n).countP g + (f i).toNat := by
  have perm := List.perm_cons_erase (List.mem_finRange i)
  have rest : ((List.finRange n).erase i).countP f = ((List.finRange n).erase i).countP g :=
    List.countP_congr fun j hj => by
      rw [h j ((List.nodup_finRange n).mem_erase_iff.mp hj).1]
  rw [perm.countP_eq f, perm.countP_eq g, List.countP_cons, List.countP_cons, rest]
  cases f i <;> cases g i <;> simp

/-- R39: what one record's change does to the count of a node's names. -/
theorem Device.timesNamed_set {p q : Device} {i : SecIx} {r : SectionRec} (h : q.sections = p.sections.set i r)
    (n : NodeIx) :
    q.timesNamed n + ((p.sections.get i).namesNode n).toNat = p.timesNamed n + (r.namesNode n).toNat := by
  have k := countP_finRange_update i (f := fun j => (q.sections.get j).namesNode n)
    (g := fun j => (p.sections.get j).namesNode n) fun j hj => by rw [h, Table.get_set_of_ne _ _ hj]
  have e : q.sections.get i = r := by rw [h, Table.get_set_self]
  rw [Device.timesNamed_eq, Device.timesNamed_eq]
  rw [e] at k
  exact k

/-! ### The checks of EDIT SECTION -/

theorem Device.isDownstreamElsewhere_iff (p : Device) (i : SecIx) (n : NodeIx) :
    p.isDownstreamElsewhere i n = true ↔ p.downstreamElsewhere i n := by
  simp [Device.isDownstreamElsewhere, Table.any_iff, Device.downstreamElsewhere, SectionRec.live, and_assoc]

/-- R16: checks 1 to 4 refuse a node with BAD_TOPOLOGY, check 5 with IN_USE. -/
theorem Device.editNodeCheck_eq (p : Device) (i : SecIx) (earlier : List NodeIx) (n : NodeIx) :
    (¬ p.editFits i earlier n → p.editNodeCheck i earlier n = some .badTopology)
      ∧ (p.editFits i earlier n → p.downstreamElsewhere i n → p.editNodeCheck i earlier n = some .inUse)
      ∧ (p.editFits i earlier n → ¬ p.downstreamElsewhere i n → p.editNodeCheck i earlier n = none) := by
  rw [← Device.isDownstreamElsewhere_iff]
  unfold Device.editFits Device.editNodeCheck
  dsimp only
  refine ⟨fun h => ?_, fun h k => ?_, fun h k => ?_⟩
  · by_cases h1 : (p.nodes.get n).bound = true
    · by_cases h2 : n = (p.sections.get i).upstream
      · simp [h2]
      · by_cases h3 : n ∈ earlier
        · simp [h3]
        · have h4 : ¬ PhaseSet.contains (p.nodes.get n).phases (p.sections.get i).phases = true :=
            fun h4 => h ⟨h1, h2, h3, h4⟩
          simp [h4]
    · simp [h1]
  · obtain ⟨h1, h2, h3, h4⟩ := h
    simp [h1, h2, h3, h4, k]
  · obtain ⟨h1, h2, h3, h4⟩ := h
    simp [h1, h2, h3, h4, k]

theorem Device.editNodeCheck_none (p : Device) (i : SecIx) (earlier : List NodeIx) (n : NodeIx) :
    p.editNodeCheck i earlier n = none ↔ p.editFits i earlier n ∧ ¬ p.downstreamElsewhere i n := by
  obtain ⟨bad, used, fine⟩ := p.editNodeCheck_eq i earlier n
  constructor
  · intro h
    by_cases hf : p.editFits i earlier n
    · refine ⟨hf, fun k => ?_⟩
      rw [used hf k] at h
      cases h
    · rw [bad hf] at h
      cases h
  · exact fun h => fine h.1 h.2

/-- R16: a new list that passes is one of distinct nodes, each of which passes. -/
theorem Device.editCheck_none {p : Device} {i : SecIx} {earlier new : List NodeIx}
    (h : p.editCheck i earlier new = none) :
    new.Nodup ∧ ∀ n ∈ new, p.editFits i earlier n ∧ ¬ p.downstreamElsewhere i n := by
  induction new generalizing earlier with
  | nil => exact ⟨List.nodup_nil, nofun⟩
  | cons n rest ih =>
    unfold Device.editCheck at h
    split at h
    · cases h
    · rename_i hn
      obtain ⟨nodup, fits⟩ := ih h
      refine ⟨List.nodup_cons.mpr ⟨fun k => ?_, nodup⟩, fun m hm => ?_⟩
      · obtain ⟨⟨-, -, k', -⟩, -⟩ := fits n k
        exact k' (List.mem_append_right _ (List.mem_singleton.mpr rfl))
      · rcases List.mem_cons.mp hm with rfl | hm
        · exact (p.editNodeCheck_none i earlier m).mp hn
        · obtain ⟨⟨hb, hu, he, hp⟩, hd⟩ := fits m hm
          exact ⟨⟨hb, hu, fun k => he (List.mem_append_left _ k), hp⟩, hd⟩

/-! ### Commands that change names -/

section
variable {p q : Device}

/-- R11: reference counts moved: nothing else of a node record changes. -/
theorem Device.nodesLawful_of_refs {f : NodeIx → Nat → Nat}
    (hq : ∀ n, q.nodes.get n = { p.nodes.get n with refs := f n (p.nodes.get n).refs })
    (hf : ∀ n, (p.nodes.get n).bound = false → f n (p.nodes.get n).refs = (p.nodes.get n).refs)
    (h : p.nodesLawful) : q.nodesLawful := by
  obtain ⟨unbound, phases, miss, addr⟩ := h
  refine ⟨fun n hn => ?_, fun n => by rw [hq]; exact phases n, fun n => by rw [hq]; exact miss n,
    fun m n => by rw [hq, hq]; exact addr m n⟩
  rw [hq] at hn ⊢
  rw [hf n hn]
  exact unbound n hn

/-- One record and the reference counts changed: what is left to show of the topology. -/
theorem Device.topologyLawful_set {i : SecIx} {r : SectionRec} (h : p.topologyLawful)
    (hs : q.sections = p.sections.set i r)
    (hn : ∀ n, (q.nodes.get n).bound = (p.nodes.get n).bound ∧ (q.nodes.get n).phases = (p.nodes.get n).phases)
    (hb : r.live → ∀ n ∈ r.nodes, (p.nodes.get n).bound = true
      ∧ PhaseSet.contains (p.nodes.get n).phases r.phases = true)
    (hu : r.live → ∀ j, j ≠ i → (p.sections.get j).live → (p.sections.get j).upstream ≠ r.upstream)
    (hl : r.live → r.downstream.length ≤ 4 ∧ r.nodes.Nodup)
    (hd : r.live → ∀ j, j ≠ i → (p.sections.get j).live → ∀ n ∈ r.downstream, n ∉ (p.sections.get j).downstream)
    (hr : ∀ n, (q.nodes.get n).refs + ((p.sections.get i).namesNode n).toNat
      = (p.nodes.get n).refs + (r.namesNode n).toNat) : q.topologyLawful := by
  obtain ⟨bound, upstream, list, downstream, refs⟩ := h
  have at_i : q.sections.get i = r := by rw [hs, Table.get_set_self]
  have other : ∀ j, j ≠ i → q.sections.get j = p.sections.get j := fun j hj => by rw [hs, Table.get_set_of_ne _ _ hj]
  refine ⟨fun j hj n k => ?_, fun j k hj hk e => ?_, fun j hj => ?_, fun j k hj hk n nj nk => ?_, fun n => ?_⟩
  · rw [(hn n).1, (hn n).2]
    by_cases e : j = i
    · subst e; rw [at_i] at hj k ⊢; exact hb hj n k
    · rw [other j e] at hj k ⊢; exact bound j hj n k
  · by_cases ej : j = i <;> by_cases ek : k = i
    · rw [ej, ek]
    · subst ej
      rw [at_i] at hj e
      rw [other k ek] at hk e
      exact absurd e.symm (hu hj k ek hk)
    · subst ek
      rw [at_i] at hk e
      rw [other j ej] at hj e
      exact absurd e (hu hk j ej hj)
    · rw [other j ej] at hj e
      rw [other k ek] at hk e
      exact upstream j k hj hk e
  · by_cases e : j = i
    · subst e; rw [at_i] at hj ⊢; exact hl hj
    · rw [other j e] at hj ⊢; exact list j hj
  · by_cases ej : j = i <;> by_cases ek : k = i
    · rw [ej, ek]
    · subst ej
      rw [at_i] at hj nj
      rw [other k ek] at hk nk
      exact absurd nk (hd hj k ek hk n nj)
    · subst ek
      rw [at_i] at hk nk
      rw [other j ej] at hj nj
      exact absurd nj (hd hk j ej hj n nk)
    · rw [other j ej] at hj nj
      rw [other k ek] at hk nk
      exact downstream j k hj hk n nj nk
  · have k := Device.timesNamed_set hs n
    have kr := hr n
    have kp := refs n
    omega

theorem Device.causesLive_set {i : SecIx} {r : SectionRec} (h : p.causesLive) (hs : q.sections = p.sections.set i r)
    (hz : q.zones = p.zones) (hr : r.live ∨ ∀ z, i ∉ (p.zones.get z).causes) : q.causesLive := fun z j hj => by
  rw [hz] at hj
  rw [hs, Table.get_set]
  split
  · rename_i e
    exact hr.resolve_right fun k => k z (e ▸ hj)
  · exact h z j hj

/-- R14, R15: CREATE SECTION. -/
theorem Device.NamesLawful.create (h : p.NamesLawful) {i : SecIx} {u : NodeIx} {z : ZoneIx} {s : PhaseSet}
    {pr : ProfIx} (hc : p.createCheck i u s = none) : (p.create i u z s pr).NamesLawful := by
  obtain ⟨vacant, bound, shared, covers⟩ := Device.createCheck_none hc
  have live : (SectionRec.created u z s pr).live := nofun
  have nodes : ∀ n, (p.create i u z s pr).nodes.get n = { p.nodes.get n with
      refs := if n = u then (p.nodes.get n).refs + 1 else (p.nodes.get n).refs } := fun n => by
    simp [Device.create]
  have unshared : ∀ j, (p.sections.get j).live → (p.sections.get j).upstream ≠ u := fun j hj e => by
    have k := (Table.any_eq_false_iff _ _).mp shared j
    have hv : ((p.sections.get j).state != .vacant) = true := by simpa [SectionRec.live] using hj
    simp [hv, e] at k
  refine ⟨Device.causesLive_set h.causes (i := i) rfl rfl (.inl live), ?_, ?_, ?_⟩
  · refine Device.nodesLawful_of_refs nodes (fun n hn => if_neg ?_) h.nodes
    rintro rfl
    rw [bound] at hn
    cases hn
  · refine Device.topologyLawful_set h.topology (i := i) (r := SectionRec.created u z s pr) rfl
      (fun n => by rw [nodes]; exact ⟨rfl, rfl⟩) (fun _ n hn => ?_) (fun _ j _ hj => unshared j hj)
      (fun _ => ⟨Nat.zero_le _, List.nodup_singleton u⟩) (fun _ _ _ _ n hn => by cases hn) (fun n => ?_)
    · rw [List.mem_singleton.mp hn]
      exact ⟨bound, covers⟩
    · have before : (p.sections.get i).namesNode n = false := by simp [SectionRec.namesNode, vacant]
      have after : (SectionRec.created u z s pr).namesNode n = decide (n = u) := by
        simp [SectionRec.namesNode, SectionRec.created, SectionRec.nodes, SectionRec.vacant]
      rw [nodes, before, after]
      by_cases e : n = u <;> simp [e]
  · exact Device.strangersLawful_of_bindings (p := p) rfl rfl
      (fun n hn => by rw [nodes] at hn ⊢; exact ⟨hn, rfl⟩) h.strangers

/-- R16, R17: EDIT SECTION. -/
theorem Device.NamesLawful.edit (h : p.NamesLawful) {i : SecIx} {new : List NodeIx} (t : PerPhase Half)
    (hd : (p.sections.get i).state = .draft) (hc : p.editCheck i [] new = none) (hl : new.length ≤ 4) :
    (p.edit i new t).NamesLawful := by
  have live : (p.sections.get i).live := by simp [SectionRec.live, hd]
  obtain ⟨bound, upstream, list, downstream, refs⟩ := h.topology
  obtain ⟨nodup, fits⟩ := Device.editCheck_none hc
  obtain ⟨fresh, -⟩ := List.nodup_cons.mp (list i live).2
  have new_fresh : (p.sections.get i).upstream ∉ new := fun k => by
    obtain ⟨⟨-, other, -, -⟩, -⟩ := fits _ k
    exact other rfl
  have nodes : ∀ n, (p.edit i new t).nodes.get n = { p.nodes.get n with
      refs := listDifference (p.sections.get i).downstream new n (p.nodes.get n).refs } := fun n => by
    simp [Device.edit]
  refine ⟨Device.causesLive_set h.causes (i := i) rfl rfl (.inl live), ?_, ?_, ?_⟩
  · refine Device.nodesLawful_of_refs nodes (fun n hn => ?_) h.nodes
    have not_new : n ∉ new := fun k => by rw [(fits n k).1.1] at hn; cases hn
    have not_old : n ∉ (p.sections.get i).downstream := fun k => by
      rw [(bound i live n (List.mem_cons_of_mem _ k)).1] at hn
      cases hn
    simp [listDifference, not_new, not_old]
  · refine Device.topologyLawful_set h.topology (i := i)
      (r := { (p.sections.get i).writeTaps t with downstream := new }) rfl
      (fun n => by rw [nodes]; exact ⟨rfl, rfl⟩) (fun _ n hn => ?_) (fun _ j hj k e => ?_)
      (fun _ => ⟨hl, List.nodup_cons.mpr ⟨new_fresh, nodup⟩⟩) (fun _ j hj k n hn hm => ?_) (fun n => ?_)
    · rcases List.mem_cons.mp hn with rfl | hn
      · exact bound i live _ (List.mem_cons_self ..)
      · obtain ⟨⟨nb, -, -, covers⟩, -⟩ := fits n hn
        exact ⟨nb, covers⟩
    · exact hj (upstream j i k live e)
    · exact (fits n hn).2 ⟨j, hj, k, hm⟩
    · have before : (p.sections.get i).namesNode n
          = decide (n = (p.sections.get i).upstream ∨ n ∈ (p.sections.get i).downstream) := by
        simp [SectionRec.namesNode, hd, SectionRec.nodes]
      have after : SectionRec.namesNode { (p.sections.get i).writeTaps t with downstream := new } n
          = decide (n = (p.sections.get i).upstream ∨ n ∈ new) := by
        simp [SectionRec.namesNode, hd, SectionRec.nodes, SectionRec.writeTaps]
      have count := refs n
      have counted : n ∈ (p.sections.get i).downstream → 0 < p.timesNamed n := fun k => by
        rw [Device.timesNamed_eq]
        exact List.countP_pos_iff.mpr ⟨i, List.mem_finRange i, by rw [before]; simp [k]⟩
      rw [nodes, before, after]
      by_cases hu : n = (p.sections.get i).upstream
      · subst hu; simp [listDifference, fresh, new_fresh]
      · by_cases ho : n ∈ (p.sections.get i).downstream <;> by_cases hn : n ∈ new <;>
          simp [listDifference, hu, ho, hn]
        have := counted ho
        omega
  · exact Device.strangersLawful_of_bindings (p := p) rfl rfl
      (fun n hn => by rw [nodes] at hn ⊢; exact ⟨hn, rfl⟩) h.strangers

/-- R24: RETIRE SECTION, of a record that no cause list names. -/
theorem Device.NamesLawful.retire (h : p.NamesLawful) {i : SecIx} (hi : (p.sections.get i).live)
    (hc : ∀ z, i ∉ (p.zones.get z).causes) : (p.retire i).NamesLawful := by
  obtain ⟨bound, -, -, -, refs⟩ := h.topology
  have nodes : ∀ n, (p.retire i).nodes.get n = { p.nodes.get n with
      refs := if n ∈ (p.sections.get i).nodes then (p.nodes.get n).refs - 1 else (p.nodes.get n).refs } := fun n => by
    simp [Device.retire]
  have vacant : ¬ SectionRec.vacant.live := fun k => k rfl
  refine ⟨Device.causesLive_set h.causes (i := i) rfl rfl (.inr hc), ?_, ?_, ?_⟩
  · refine Device.nodesLawful_of_refs nodes (fun n hn => if_neg fun k => ?_) h.nodes
    rw [(bound i hi n k).1] at hn
    cases hn
  · refine Device.topologyLawful_set h.topology (i := i) (r := SectionRec.vacant) rfl
      (fun n => by rw [nodes]; exact ⟨rfl, rfl⟩) (fun k => absurd k vacant) (fun k => absurd k vacant)
      (fun k => absurd k vacant) (fun k => absurd k vacant) (fun n => ?_)
    have before : (p.sections.get i).namesNode n = decide (n ∈ (p.sections.get i).nodes) := by
      have : ((p.sections.get i).state != .vacant) = true := by simpa [SectionRec.live] using hi
      simp [SectionRec.namesNode, this]
    have after : SectionRec.vacant.namesNode n = false := rfl
    rw [nodes, before, after]
    by_cases hn : n ∈ (p.sections.get i).nodes
    · have counted : 0 < p.timesNamed n := by
        rw [Device.timesNamed_eq]
        exact List.countP_pos_iff.mpr ⟨i, List.mem_finRange i, by rw [before]; simp [hn]⟩
      have := refs n
      simp [hn]
      omega
    · simp [hn]
  · exact Device.strangersLawful_of_bindings (p := p) rfl rfl
      (fun n hn => by rw [nodes] at hn ⊢; exact ⟨hn, rfl⟩) h.strangers

end

end Sys2Proof.Machine

/-! ## The assembly slots and the work in hand (O57)

R62, R77, R80, R83, R88: what the open slots hold, through reports, ticks and closes. -/

namespace Sys2Proof.Machine

/-! ### One slot -/

/-- R62, R77, R80, R91: what one open slot holds. -/
structure Device.SlotLawful (p : Device) (s : Slot) : Prop where
  complete : s.complete = s.full
  arrived : s.arrived.Nodup
  expected : s.expected.Nodup
  bound : ∀ n ∈ s.expected, (p.nodes.get n).bound = true
  reports : ∀ rep ∈ s.reports, p.reportLawful rep

/-- Bound nodes stay bound, with the phases that they have. -/
def Device.KeepsBound (p q : Device) : Prop :=
  ∀ n, (p.nodes.get n).bound = true → (q.nodes.get n).bound = true ∧ (q.nodes.get n).phases = (p.nodes.get n).phases

theorem Device.KeepsBound.of_nodes {p q : Device} (h : ∀ n, (p.nodes.get n).Follows (q.nodes.get n)) :
    p.KeepsBound q := fun n hn => ⟨(h n).bound.trans hn, (h n).phases⟩

theorem Device.SlotLawful.of_bound {p q : Device} {s : Slot} (k : p.SlotLawful s) (h : p.KeepsBound q) :
    q.SlotLawful s :=
  { k with
    bound := fun n hn => (h n (k.bound n hn)).1
    reports := fun rep hr =>
      let ⟨hb, hp, hv⟩ := k.reports rep hr
      ⟨(h rep.node hb).1, (h rep.node hb).2.trans hp, hv⟩ }

theorem Device.SlotLawful.of_nodes {p q : Device} {s : Slot} (k : p.SlotLawful s) (h : q.nodes = p.nodes) :
    q.SlotLawful s :=
  k.of_bound fun n hn => by rw [h]; exact ⟨hn, rfl⟩

theorem Slot.full_iff (s : Slot) : s.full = true ↔ ∀ n ∈ s.expected, n ∈ s.arrived := by
  simp [Slot.full]

/-- R80: COMPLETE stays exact while completeness is never lost. -/
theorem Slot.checkComplete_exact {s : Slot} (h : s.complete = true → s.full = true) :
    s.checkComplete.complete = s.checkComplete.full := by
  show (s.complete || s.full) = s.full
  cases hc : s.complete
  · rfl
  · exact (h hc).symm

/-- R79, R80: a report of a node that has not arrived joins the slot. -/
theorem Device.SlotLawful.store {p : Device} {s : Slot} (h : p.SlotLawful s) {rep : StoredReport}
    (hn : rep.node ∉ s.arrived) (hr : p.reportLawful rep) : p.SlotLawful (Slot.store rep s) := by
  have arrived : (Slot.store rep s).arrived = s.arrived ++ [rep.node] := by
    simp [Slot.store, Slot.checkComplete, Slot.arrived]
  refine { h with complete := Slot.checkComplete_exact fun hc => ?_, arrived := ?_, reports := fun r k => ?_ }
  · rw [Slot.full_iff]
    intro n k
    have := (Slot.full_iff s).mp (h.complete ▸ hc) n k
    show n ∈ (s.reports ++ [rep]).map StoredReport.node
    rw [List.map_append]
    exact List.mem_append_left _ this
  · rw [arrived]
    exact h.arrived.append (List.nodup_singleton _) (by simpa using hn)
  · rcases List.mem_append.mp k with k | k
    · exact h.reports r k
    · rw [List.mem_singleton.mp k]; exact hr

/-- R37: a node leaves a slot, which may now be COMPLETE. -/
theorem Device.SlotLawful.removeNode {p q : Device} {s : Slot} (h : p.SlotLawful s) (n : NodeIx)
    (hq : ∀ m, m ≠ n → q.nodes.get m = p.nodes.get m) : q.SlotLawful (Slot.removeNode n s) := by
  have arrived : (Slot.removeNode n s).arrived = s.arrived.filter fun m => m != n := by
    show (s.reports.filter fun r => r.node != n).map StoredReport.node = _
    exact (List.filter_map (p := fun m => m != n)).symm
  refine ⟨Slot.checkComplete_exact fun hc => ?_, ?_, h.expected.filter _, fun m k => ?_, fun r k => ?_⟩
  · rw [Slot.full_iff]
    intro m k
    obtain ⟨hm, hmn⟩ := List.mem_filter.mp k
    have := (Slot.full_iff s).mp (h.complete ▸ hc) m hm
    show m ∈ (Slot.removeNode n s).arrived
    rw [arrived]
    exact List.mem_filter.mpr ⟨this, hmn⟩
  · rw [arrived]; exact h.arrived.filter _
  · obtain ⟨hm, hmn⟩ := List.mem_filter.mp k
    rw [hq m (by simpa using hmn)]
    exact h.bound m hm
  · obtain ⟨hr, hrn⟩ := List.mem_filter.mp k
    unfold Device.reportLawful
    rw [hq r.node (by simpa using hrn)]
    exact h.reports r hr

/-- R78: the slot that a tick opens. -/
theorem Device.newSlot_lawful (p : Device) (d : Moment) : p.SlotLawful (p.newSlot d) := by
  refine ⟨Slot.checkComplete_exact nofun, List.nodup_nil, (List.nodup_finRange 64).filter _, fun n hn => ?_, nofun⟩
  have k := (List.mem_filter.mp hn).2
  unfold Device.expects at k
  rw [Bool.and_eq_true] at k
  exact k.1

/-! ### The open slots -/

/-- R77: the slots of a list, the last of which holds epoch `e`, but for the oldest's state. -/
structure Device.SlotsStand (p : Device) (e : Half) (l : List Slot) : Prop where
  size : l.length ≤ 4
  epochs : ∀ (k : Nat) (h : k < l.length), l[k].epoch = e - BitVec.ofNat 16 (l.length - 1 - k)
  slots : ∀ s ∈ l, p.SlotLawful s

/-- R77, R80: the oldest open slot is GATHERING. -/
def oldestGathers (l : List Slot) : Prop := ∀ s ∈ l.head?, s.complete = false

theorem Device.slotsLawful_iff (p : Device) :
    p.slotsLawful ↔ p.SlotsStand p.clock.epoch p.slots ∧ oldestGathers p.slots ∧ p.held.lawful := by
  constructor
  · rintro ⟨size, epochs, complete, head, nodup, bound, reports, held⟩
    exact ⟨⟨size, epochs, fun s hs => ⟨complete s hs, (nodup s hs).1, (nodup s hs).2, bound s hs, reports s hs⟩⟩,
      head, held⟩
  · rintro ⟨⟨size, epochs, slots⟩, head, held⟩
    exact ⟨size, epochs, fun s hs => (slots s hs).complete, head, fun s hs => ⟨(slots s hs).arrived, (slots s hs).expected⟩,
      fun s hs => (slots s hs).bound, fun s hs => (slots s hs).reports, held⟩

section
variable {p q : Device} {e : Half} {l l' : List Slot}

theorem Device.SlotsStand.of_bound (k : p.SlotsStand e l) (h : p.KeepsBound q) : q.SlotsStand e l :=
  { k with slots := fun s hs => (k.slots s hs).of_bound h }

theorem Device.SlotsStand.of_nodes (k : p.SlotsStand e l) (h : q.nodes = p.nodes) : q.SlotsStand e l :=
  { k with slots := fun s hs => (k.slots s hs).of_nodes h }

theorem Device.SlotsStand.nil (p : Device) (e : Half) : p.SlotsStand e [] := ⟨Nat.zero_le _, nofun, nofun⟩

/-- R81, R82: the slots that stay when the oldest ones close. -/
theorem Device.SlotsStand.suffix (k : p.SlotsStand e l) (h : l' <:+ l) : p.SlotsStand e l' := by
  obtain ⟨front, rfl⟩ := h
  refine ⟨?_, fun j hj => ?_, fun s hs => k.slots s (List.mem_append_right _ hs)⟩
  · have := k.size
    rw [List.length_append] at this
    omega
  · have hk := k.epochs (front.length + j) (by rw [List.length_append]; omega)
    rw [List.getElem_append_right (Nat.le_add_right ..)] at hk
    simp only [Nat.add_sub_cancel_left, List.length_append] at hk
    rw [hk]
    congr 2
    omega

/-- The same epochs in the same places, with other slots. -/
theorem Device.SlotsStand.of_epochs (k : p.SlotsStand e l) (h : l'.map Slot.epoch = l.map Slot.epoch)
    (hs : ∀ s ∈ l', q.SlotLawful s) : q.SlotsStand e l' := by
  have size : l'.length = l.length := by simpa using congrArg List.length h
  refine ⟨size.trans_le k.size, fun j hj => ?_, hs⟩
  have hj' : j < l.length := by omega
  have at_j : l'[j].epoch = l[j].epoch := by
    have := congrArg (fun m => m[j]?) h
    simpa [hj, hj'] using this
  rw [at_j, size]
  exact k.epochs j hj'

/-- R78: a slot of the next epoch opens. -/
theorem Device.SlotsStand.append (k : p.SlotsStand e l) (hl : l.length ≤ 3) {s : Slot} (hs : p.SlotLawful s)
    (he : s.epoch = e + 1#16) : p.SlotsStand (e + 1#16) (l ++ [s]) := by
  refine ⟨by simp; omega, fun j hj => ?_, fun x hx => ?_⟩
  · rw [List.length_append, List.length_singleton] at hj ⊢
    rcases Nat.lt_or_ge j l.length with h | h
    · rw [List.getElem_append_left h, k.epochs j h]
      have : l.length + 1 - 1 - j = (l.length - 1 - j) + 1 := by omega
      rw [this, BitVec.ofNat_add]
      bv_omega
    · have : j = l.length := by omega
      subst this
      simp [he]
  · rcases List.mem_append.mp hx with h | h
    · exact k.slots x h
    · rw [List.mem_singleton.mp h]; exact hs

end

/-- The slots that stay open when the COMPLETE ones at the front leave. -/
theorem oldestGathers_dropWhile (l : List Slot) : oldestGathers (l.dropWhile Slot.complete) := by
  intro s hs
  have h := List.head?_dropWhile_not Slot.complete l
  rw [Option.mem_def.mp hs] at h
  simpa using h

/-- R82, R88: the slots that close are delivered; with no close held before them, the work in hand is lawful. -/
theorem Device.closeOldest_slotsLawful {p : Device} {e : Half} (k : p.SlotsStand e p.slots) (hh : p.held = HeldWork.empty)
    (n : Nat) : p.SlotsStand e (p.closeOldest n).slots ∧ oldestGathers (p.closeOldest n).slots
      ∧ (p.closeOldest n).held.lawful := by
  obtain ⟨-, slots, closes⟩ := p.closeOldest_kept n
  have reach : (p.closeOldest n).held.reach = none := by
    show p.held.reach = none
    rw [hh]; rfl
  rw [slots]
  refine ⟨k.suffix ((List.dropWhile_suffix _).trans (List.drop_suffix _ _)), oldestGathers_dropWhile _,
    ?_, fun c hc => ?_, fun _ => reach⟩
  · rw [closes, hh]
    have hd := (List.takeWhile_prefix Slot.complete (l := p.slots.drop n)).length_le
    have size := k.size
    simp only [HeldWork.empty, List.nil_append, List.length_map, List.length_append, List.length_take,
      List.length_drop] at hd ⊢
    omega
  · rw [closes, hh] at hc
    simp only [HeldWork.empty, List.nil_append] at hc
    obtain ⟨s, hs, rfl⟩ := List.mem_map.mp hc
    have mem : s ∈ p.slots := by
      rcases List.mem_append.mp hs with h | h
      · exact List.mem_of_mem_take h
      · exact List.mem_of_mem_drop ((List.takeWhile_prefix _).mem h)
    exact (k.slots s mem).arrived

/-! ### Every law of names and slots -/

/-- The laws of O57, the cause lists with them. -/
structure Device.RegistryLawful (p : Device) : Prop where
  names : p.NamesLawful
  slots : p.slotsLawful

theorem Device.RegistryLawful.held {p : Device} (h : p.RegistryLawful) : p.held.lawful := by
  obtain ⟨-, -, held⟩ := p.slotsLawful_iff.mp h.slots
  exact held

/-- The laws of O57 are kept. -/
def Device.KeepsRegistry (p q : Device) : Prop := p.RegistryLawful → q.RegistryLawful

/-- Tables that follow, the slots standing and the work in hand lawful. -/
theorem Device.KeepsRegistry.of_follows {p q : Device} (h : p.Follows q) (hs : q.strangers = p.strangers)
    (ho : q.overwrites = p.overwrites) (hl : q.slots = p.slots) (he : q.clock.epoch = p.clock.epoch)
    (hh : p.held.lawful → q.held.lawful) : p.KeepsRegistry q := by
  rintro ⟨names, slots⟩
  obtain ⟨stand, head, held⟩ := p.slotsLawful_iff.mp slots
  refine ⟨(h.sameNaming names.causes).namesLawful hs ho names, q.slotsLawful_iff.mpr ⟨?_, ?_, hh held⟩⟩
  · rw [hl, he]; exact stand.of_bound (.of_nodes h.nodes)
  · rw [hl]; exact head

/-- Nothing of a table or a slot changed. -/
theorem Device.KeepsRegistry.of_tables {p q : Device} (h : p.SameTables q) (k : p.SameSlots q) :
    p.KeepsRegistry q :=
  .of_follows (Device.Follows.workLaw.frame h) k.strangers k.overwrites k.slots k.epoch fun l => by rwa [k.held]

/-- R83: the work in hand done, none is recorded. -/
theorem Device.finishWork_held {p : Device} (h : p.held.lawful) : p.finishWork.held = HeldWork.empty := by
  have closes := (p.finishWork_kept).2.2
  unfold Device.finishWork at closes ⊢
  split
  · rename_i hc
    have reach := h.2.2 hc
    show p.held = _
    rcases hp : p.held with ⟨c, r⟩
    rw [hp] at hc reach
    cases hc
    cases reach
    rfl
  · rw [(Device.workCloses_kept _ _).2.2]
    rfl

theorem HeldWork.empty_lawful : HeldWork.empty.lawful := ⟨Nat.zero_le _, nofun, fun _ => rfl⟩

theorem Device.finishWork_keepsRegistry (p : Device) : p.KeepsRegistry p.finishWork := by
  obtain ⟨⟨-, clock, strangers, overwrites, -⟩, slots, -⟩ := p.finishWork_kept
  exact .of_follows (Device.Follows.workLaw.finishWork p) strangers overwrites slots (by rw [clock])
    fun h => by rw [Device.finishWork_held h]; exact HeldWork.empty_lawful

theorem Device.SameButTrip.keepsRegistry {p q : Device} (h : p.SameButTrip q) (k : p.Follows q) :
    p.KeepsRegistry q := by
  obtain ⟨-, clock, ⟨slots, held⟩, -, strangers, overwrites, -⟩ := h
  exact .of_follows k strangers overwrites slots (by rw [clock]) fun l => by rwa [held]

/-- R88, R89: the record of the work in hand after a piece of it. -/
theorem HeldWork.advance_lawful {w : HeldWork} (h : w.lawful) (hc : w.closes ≠ []) (i : SecIx) :
    (w.advance i).lawful := by
  obtain ⟨size, nodup, -⟩ := h
  unfold HeldWork.advance
  split
  · exact ⟨(List.length_tail.trans_le (Nat.sub_le _ _)).trans size, fun c k => nodup c (List.mem_of_mem_tail k), fun _ => rfl⟩
  · exact ⟨size, nodup, fun k => absurd k hc⟩

theorem Device.workPiece_keepsRegistry (p : Device) : p.KeepsRegistry p.workPiece := by
  obtain ⟨-, clock, strangers, overwrites, -⟩ := p.workPiece_kept
  have moved : p.workPiece.slots = p.slots ∧ (p.held.lawful → p.workPiece.held.lawful) := by
    unfold Device.workPiece
    split
    · rename_i c _ hc
      have hn : p.held.closes ≠ [] := by rw [hc]; exact nofun
      unfold Device.closePiece
      split
      · exact ⟨(p.nodeWork_kept c).2.1.1, fun h => ⟨h.1, h.2.1, fun k => absurd k hn⟩⟩
      · exact ⟨(p.recordWork_sameButTrip c _).2.2.1.1, fun h => HeldWork.advance_lawful h hn _⟩
    · exact ⟨rfl, id⟩
  exact .of_follows (Device.Follows.workLaw.workPiece p) strangers overwrites moved.1 (by rw [clock]) moved.2

/-! ### Ticks -/

theorem Device.makeRoom_closes (p : Device) : p.makeRoom.held.closes <:+ p.held.closes := by
  unfold Device.makeRoom
  split
  · rename_i c rest hc
    split
    · rw [hc]; exact List.suffix_cons c rest
    · exact List.suffix_refl _
  · exact List.suffix_refl _

/-- R78: the slot of a new epoch opens, with room for it. -/
theorem Device.openSlot_registry {p : Device} {e : Half} (d : Moment) (names : p.NamesLawful)
    (stand : p.SlotsStand e p.slots) (room : p.slots.length ≤ 3) (head : oldestGathers p.slots)
    (held : p.held.lawful) (he : p.clock.epoch = e + 1#16) : (p.openSlot d).RegistryLawful := by
  obtain ⟨closed, opened⟩ := p.openSlot_slots d head
  have kept := p.openSlot_kept d
  obtain ⟨-, clock, strangers, overwrites, -⟩ := kept
  have follows := Device.Follows.workLaw.openSlot p d
  refine ⟨(follows.sameNaming names.causes).namesLawful strangers overwrites names,
    (Device.slotsLawful_iff _).mpr ?_⟩
  rw [clock, he]
  by_cases hc : p.slots = [] ∧ (p.newSlot d).complete = true
  · obtain ⟨slots, closes⟩ := closed hc.1 hc.2
    rw [slots]
    refine ⟨.nil _ _, nofun, ?_, fun c k => ?_, fun k => ?_⟩
    · have := (p.makeRoom_kept).2.2 held.1
      rw [closes, List.length_append, List.length_singleton]
      omega
    · rw [closes] at k
      rcases List.mem_append.mp k with k | k
      · exact held.2.1 c (p.makeRoom_closes.mem k)
      · rw [List.mem_singleton.mp k]
        exact List.nodup_nil
    · rw [closes] at k
      exact absurd k (List.append_ne_nil_of_right_ne_nil _ nofun)
  · rw [opened ((not_and_or.mp hc).imp_right eq_false_of_ne_true)]
    refine ⟨?_, fun s hs => ?_, held⟩
    · exact (stand.append room (p.newSlot_lawful d) he).of_nodes rfl
    · rcases hl : p.slots with _ | ⟨x, l⟩
      · simp only [hl, List.nil_append, List.head?_cons, Option.mem_def, Option.some.injEq] at hs
        rw [← hs]
        exact eq_false_of_ne_true fun k => hc ⟨hl, k⟩
      · simp only [hl, List.cons_append, List.head?_cons, Option.mem_def, Option.some.injEq] at hs
        exact head s (by rw [hl, ← hs]; rfl)

/-- R75, R78, R83: a tick. -/
theorem Device.tick_keepsRegistry (p : Device) : p.KeepsRegistry p.tick := by
  intro h
  obtain ⟨names, slots⟩ := p.finishWork_keepsRegistry h
  have held := Device.finishWork_held h.held
  obtain ⟨stand, head, hl⟩ := Device.slotsLawful_iff _ |>.mp slots
  unfold Device.tick Device.takeTick
  dsimp only
  generalize p.finishWork = q at *
  have names' : Device.NamesLawful { q with clock := { q.clock with epoch := q.clock.epoch + 1#16 } } :=
    ⟨names.causes, names.nodes, names.topology, names.strangers⟩
  have stand' : Device.SlotsStand { q with clock := { q.clock with epoch := q.clock.epoch + 1#16 } } q.clock.epoch q.slots :=
    stand.of_nodes rfl
  split
  · rename_i full
    obtain ⟨s, h, hw⟩ := Device.closeOldest_slotsLawful (p := { q with clock := { q.clock with epoch := q.clock.epoch + 1#16 } })
      stand' held 1
    refine Device.openSlot_registry _ ⟨names.causes, names.nodes, names.topology, names.strangers⟩ (s.of_nodes rfl) ?_ h hw rfl
    have size := stand.size
    have dropped := (List.dropWhile_suffix Slot.complete (l := q.slots.drop 1)).length_le
    rw [List.length_drop] at dropped
    show ((q.slots.drop 1).dropWhile Slot.complete).length ≤ 3
    omega
  · rename_i free
    exact Device.openSlot_registry _ names' stand' (Nat.lt_succ_iff.mp (by simpa [Config.slotCount] using free)) head hl rfl

/-! ### Reports and deadlines -/

/-- R81: a deadline. -/
theorem Device.slotDeadline_keepsRegistry (p : Device) (e : Half) : p.KeepsRegistry (p.slotDeadline e) := by
  intro h
  obtain ⟨names, slots⟩ := p.finishWork_keepsRegistry h
  have held := Device.finishWork_held h.held
  obtain ⟨stand, head, -⟩ := Device.slotsLawful_iff _ |>.mp slots
  unfold Device.slotDeadline
  dsimp only
  generalize hq : p.finishWork = q at *
  split
  · rename_i k _
    have pass : ∃ t, q.passTo ((q.slots.map Slot.deadline).getD k q.now) = { q with now := t } := by
      have idle : q.finishWork = q := by rw [← hq, Device.finishWork_twice]
      unfold Device.passTo
      split
      · rw [idle]; exact ⟨_, rfl⟩
      · exact ⟨q.now, rfl⟩
    obtain ⟨t, ht⟩ := pass
    rw [ht]
    have stand' : Device.SlotsStand { q with now := t } q.clock.epoch q.slots := stand.of_nodes rfl
    obtain ⟨s, g, w⟩ := Device.closeOldest_slotsLawful (p := { q with now := t }) stand' held (k + 1)
    exact ⟨⟨names.causes, names.nodes, names.topology, names.strangers⟩,
      (Device.slotsLawful_iff _).mpr ⟨s.of_nodes rfl, g, w⟩⟩
  · exact h

/-- R62: what admission hands on is lawful. -/
theorem Device.admitted_lawful {p : Device} {body : List Byte} {n : NodeIx} (hb : (p.nodes.get n).bound = true)
    (hp : (p.nodes.get n).phases = bodyPhases body) : p.reportLawful (admitted body n) := by
  refine ⟨hb, hp, fun ph => ⟨?_, ?_⟩⟩
  · simp only [admitted, PerPhase.get_ofFn, admittedVoltage, Config.voltageMax]
    split
    · exact Nat.min_le_left _ _
    · exact Nat.zero_le _
  · simp only [admitted, PerPhase.get_ofFn, admittedCurrent, Config.currentMax]
    split
    · exact Nat.min_le_left _ _
    · exact Nat.zero_le _

/-- R60: the node bound to an address. -/
theorem Device.nodeOf_some {p : Device} {a : Addr} {n : NodeIx} (h : p.nodeOf a = some n) :
    (p.nodes.get n).bound = true := by
  have k := List.find?_some h
  rw [Bool.and_eq_true] at k
  exact k.1

theorem Device.nodeOf_none {p : Device} {a : Addr} (h : p.nodeOf a = none) (n : NodeIx)
    (hn : (p.nodes.get n).bound = true) : (p.nodes.get n).addr ≠ a := by
  have k := List.find?_eq_none.mp h n (List.mem_finRange n)
  simpa [hn] using k

/-- The slot of an epoch holds it. -/
theorem Device.slotOf_some {p : Device} {e : Half} {k : Nat} (h : p.slotOf e = some k) :
    ∃ hk : k < p.slots.length, p.slots[k].epoch = e := by
  obtain ⟨hk, he, -⟩ := List.findIdx?_eq_some_iff_getElem.mp h
  exact ⟨hk, by simpa using he⟩

/-- R79: an admitted report stored, no work being in hand. -/
theorem Device.takeReport_registry {p : Device} (h : p.RegistryLawful) (hh : p.held = HeldWork.empty) (e : Half)
    {rep : StoredReport} (hr : p.reportLawful rep) : (p.takeReport e rep).RegistryLawful := by
  have counted : ∀ f, (p.withCounters f).RegistryLawful := fun f =>
    Device.KeepsRegistry.of_tables (p := p) (.of_eq rfl rfl rfl rfl) ⟨rfl, rfl, rfl, rfl, rfl⟩ h
  obtain ⟨names, slots⟩ := h
  obtain ⟨stand, -, -⟩ := p.slotsLawful_iff.mp slots
  unfold Device.takeReport
  split
  · exact counted _
  · split
    · exact counted _
    · rename_i k hk
      split
      · exact counted _
      · rename_i new
        obtain ⟨hlt, he⟩ := Device.slotOf_some hk
        have fresh : rep.node ∉ p.slots[k].arrived := fun hm => new <| by
          rw [List.any_eq_true]
          exact ⟨p.slots[k], List.getElem_mem hlt, by simp [he, hm]⟩
        have stored : Device.SlotsStand { p with slots := p.slots.modify k (Slot.store rep) } p.clock.epoch
            (p.slots.modify k (Slot.store rep)) := by
          refine stand.of_epochs ?_ fun s hs => ?_
          · apply List.ext_getElem?
            intro j
            rw [List.getElem?_map, List.getElem?_map, List.getElem?_modify]
            split
            · cases p.slots[j]? <;> rfl
            · simp
          · obtain ⟨j, hj, rfl⟩ := List.getElem_of_mem hs
            rw [List.getElem_modify]
            have hj' : j < p.slots.length := by simpa using hj
            split
            · rename_i ekj
              subst ekj
              exact ((stand.slots _ (List.getElem_mem hlt)).store fresh hr).of_nodes rfl
            · exact (stand.slots _ (List.getElem_mem hj')).of_nodes rfl
        obtain ⟨s, g, w⟩ := Device.closeOldest_slotsLawful stored hh 0
        exact ⟨⟨names.causes, names.nodes, names.topology, names.strangers⟩,
          (Device.slotsLawful_iff _).mpr ⟨s.of_nodes rfl, g, w⟩⟩

/-- R79, R83: an admitted report. -/
theorem Device.admission_keepsRegistry (p : Device) (body : List Byte) (n : NodeIx)
    (hn : p.nodeOf (bodyAddr body) = some n) (hp : bodyPhases body = (p.nodes.get n).phases) :
    p.KeepsRegistry (p.storeReport (bodyEpoch body) (admitted body n)) := by
  intro h
  have held := Device.finishWork_held h.held
  have node := (Device.Follows.workLaw.finishWork p).nodes n
  exact Device.takeReport_registry (p.finishWork_keepsRegistry h) held _
    (Device.admitted_lawful (node.bound.trans (Device.nodeOf_some hn)) (node.phases.trans hp.symm))

/-! ### Strangers -/

theorem Device.findStranger_some {p : Device} {f : Option Sighting → Bool} {k : Fin 3}
    (h : p.findStranger f = some k) : f (p.strangers.get k) = true :=
  List.find?_some (p := fun k => f (p.strangers.get k)) h

theorem Device.findStranger_none {p : Device} {f : Option Sighting → Bool} (h : p.findStranger f = none) (k : Fin 3) :
    f (p.strangers.get k) = false := by
  simpa using List.find?_eq_none.mp h k (List.mem_finRange k)

theorem holdsAddr_iff (a : Addr) (o : Option Sighting) : holdsAddr a o = true ↔ ∃ g, o = some g ∧ g.addr = a := by
  cases o <;> simp [holdsAddr]

/-- One Stranger Slot written with a sighting of an address that no other slot holds and no node is bound to. -/
theorem Device.strangersLawful_set {p q : Device} {k : Fin 3} {g : Sighting} (h : p.strangersLawful)
    (hn : q.nodes = p.nodes) (hs : q.strangers = p.strangers.set k (some g)) (ho : q.overwrites ≤ 15)
    (hc : 1 ≤ g.count ∧ g.count ≤ 255) (hp : g.phases ≠ PhaseSet.none)
    (hb : ∀ n, (p.nodes.get n).bound = true → (p.nodes.get n).addr ≠ g.addr)
    (hf : ∀ l g', l ≠ k → p.strangers.get l = some g' → g'.addr ≠ g.addr) : q.strangersLawful := by
  obtain ⟨-, sightings, distinct⟩ := h
  have slot : ∀ l g', q.strangers.get l = some g' → l = k ∧ g' = g ∨ l ≠ k ∧ p.strangers.get l = some g' :=
    fun l g' e => by
      rw [hs, Table.get_set] at e
      split at e
      · cases e; exact .inl ⟨‹_›, rfl⟩
      · exact .inr ⟨‹_›, e⟩
  refine ⟨ho, fun l g' e => ?_, fun l m g1 g2 e1 e2 ea => ?_⟩
  · rw [hn]
    rcases slot l g' e with ⟨-, rfl⟩ | ⟨-, e⟩
    · exact ⟨hc, hp, hb⟩
    · exact sightings l g' e
  · rcases slot l g1 e1 with ⟨rfl, rfl⟩ | ⟨hl, e1⟩ <;> rcases slot m g2 e2 with ⟨rfl, rfl⟩ | ⟨hm, e2⟩
    · rfl
    · exact absurd ea.symm (hf m g2 hm e2)
    · exact absurd ea (hf l g1 hl e1)
    · exact distinct l m g1 g2 e1 e2 ea

/-- R49: a sighting. -/
theorem Device.sight_strangersLawful {p : Device} {a : Addr} {s : PhaseSet} (e : Half) (h : p.strangersLawful)
    (hn : p.nodeOf a = none) (hs : s ≠ PhaseSet.none) : (p.sight a e s).strangersLawful := by
  obtain ⟨overwrites, sightings, distinct⟩ := h
  have unbound := fun n => Device.nodeOf_none hn (n := n)
  unfold Device.sight
  dsimp only
  split
  · rename_i k hk
    obtain ⟨g, hg, ha⟩ := (holdsAddr_iff a _).mp (Device.findStranger_some hk)
    obtain ⟨count, -, free⟩ := sightings k g hg
    refine Device.strangersLawful_set (g := g.refresh e s) (k := k) ⟨overwrites, sightings, distinct⟩ rfl (by rw [hg]; rfl)
      overwrites ?_ hs free fun l g' hl hg' ea => hl (distinct l k g' g hg' hg ea)
    exact ⟨Nat.le_min.mpr ⟨by omega, by omega⟩, Nat.min_le_left _ _⟩
  · rename_i none_held
    have other : ∀ l g', p.strangers.get l = some g' → g'.addr ≠ a := fun l g' hg' ea => by
      have k := Device.findStranger_none none_held l
      rw [(holdsAddr_iff a _).mpr ⟨g', hg', ea⟩] at k
      cases k
    split
    · rename_i k _
      exact Device.strangersLawful_set (k := k) (g := ⟨a, e, s, 1⟩) ⟨overwrites, sightings, distinct⟩ rfl rfl overwrites
        ⟨Nat.le_refl 1, (by decide : 1 ≤ 255)⟩ hs unbound fun l g' _ => other l g'
    · exact Device.strangersLawful_set (k := 2) (g := ⟨a, e, s, 1⟩) ⟨overwrites, sightings, distinct⟩ rfl rfl
        (Nat.min_le_left _ _) ⟨Nat.le_refl 1, (by decide : 1 ≤ 255)⟩ hs unbound fun l g' _ => other l g'

theorem PhaseSet.count_none : PhaseSet.count PhaseSet.none = 0 := rfl

/-- R49: a sighting moves the Stranger Slots alone. -/
theorem Device.sight_sameRest (p : Device) (a : Addr) (e : Half) (s : PhaseSet) :
    (p.sight a e s).slots = p.slots ∧ (p.sight a e s).held = p.held ∧ (p.sight a e s).clock = p.clock := by
  unfold Device.sight
  dsimp only
  split
  · exact ⟨rfl, rfl, rfl⟩
  · split <;> exact ⟨rfl, rfl, rfl⟩

/-- The Stranger Slots changed, and nothing else that the laws look at. -/
theorem Device.RegistryLawful.of_strangers {p q : Device} (h : p.RegistryLawful) (ht : p.SameTables q)
    (hl : q.slots = p.slots) (hh : q.held = p.held) (he : q.clock.epoch = p.clock.epoch) (hs : q.strangersLawful) :
    q.RegistryLawful := by
  obtain ⟨names, slots⟩ := h
  obtain ⟨stand, head, held⟩ := p.slotsLawful_iff.mp slots
  have naming := (Device.Follows.workLaw.frame ht).sameNaming names.causes
  refine ⟨⟨naming.causes, Device.nodesLawful_of_follows naming.nodes names.nodes, naming.topologyLawful names.topology, hs⟩,
    (Device.slotsLawful_iff _).mpr ?_⟩
  rw [hl, hh, he]
  exact ⟨stand.of_bound (.of_nodes naming.nodes), head, held⟩

theorem Device.sight_keepsRegistry (p : Device) (a : Addr) (e : Half) (s : PhaseSet) (hn : p.nodeOf a = none)
    (hs : PhaseSet.count s ≠ 0) : p.KeepsRegistry (p.sight a e s) := fun h => by
  obtain ⟨slots, held, clock⟩ := p.sight_sameRest a e s
  refine h.of_strangers (p.sight_sameTables a e s) slots held (by rw [clock])
    (Device.sight_strangersLawful e h.names.strangers hn ?_)
  rintro rfl
  exact hs PhaseSet.count_none

/-- Every event keeps the laws of names and slots. -/
theorem Device.KeepsRegistry.eventLaw : EventLaw Device.KeepsRegistry where
  refl _ := id
  trans h k := k ∘ h
  frame := .of_tables
  finishWork := Device.finishWork_keepsRegistry
  workPiece := Device.workPiece_keepsRegistry
  tick := Device.tick_keepsRegistry
  renumber p n h := by
    have done := p.finishWork_keepsRegistry h
    have names := done.names
    exact ⟨⟨names.causes, names.nodes, names.topology, names.strangers⟩,
      (Device.slotsLawful_iff _).mpr ⟨.nil _ _, nofun, done.held⟩⟩
  slotDeadline := Device.slotDeadline_keepsRegistry
  admission := Device.admission_keepsRegistry
  sight := Device.sight_keepsRegistry
  becomeStable p z level := (p.becomeStable_sameButTrip z level).keepsRegistry (p.becomeStable_follows z level)
  timeout p z _ := (p.timeout_sameButTrip z).keepsRegistry (p.timeout_follows z)

end Sys2Proof.Machine

/-! ## Every step keeps the laws of the Node Table, the topology, the Stranger Slots and the slots (O57) -/

namespace Sys2Proof.Machine

section
variable {p q : Device}

/-- R109: a cause list names CONFIRMED records, which are live. -/
theorem Device.causesLive_of_tripsLawful (h : p.tripsLawful) : p.causesLive := fun z i hi => by
  obtain ⟨-, -, -, listed, -⟩ := h
  have confirmed := ((listed z i).mp hi).1
  rw [SectionRec.live, confirmed]
  exact nofun

/-- R3: a record that may be retired or acknowledged stands in no cause list. -/
theorem Device.unlisted_of_not_pending (h : p.tripsLawful) {i : SecIx} (hi : (p.sections.get i).mark ≠ .pending)
    (z : ZoneIx) : i ∉ (p.zones.get z).causes := fun k => by
  obtain ⟨-, -, -, listed, -⟩ := h
  exact hi ((listed z i).mp k).2.1

theorem Device.KeepsRegistry.refl (p : Device) : p.KeepsRegistry p := id

/-- Names lawful again, the slots standing and bound nodes staying bound. -/
theorem Device.RegistryLawful.of_names (h : p.RegistryLawful) (hn : q.NamesLawful) (hb : p.KeepsBound q)
    (hl : q.slots = p.slots) (hh : q.held = p.held) (he : q.clock.epoch = p.clock.epoch) : q.RegistryLawful := by
  obtain ⟨stand, head, held⟩ := p.slotsLawful_iff.mp h.slots
  refine ⟨hn, q.slotsLawful_iff.mpr ?_⟩
  rw [hl, he, hh]
  exact ⟨stand.of_bound hb, head, held⟩

theorem Device.place_keepsRegistry {i : SecIx} {r : SectionRec} (hr : (p.sections.get i).SameNames r)
    (hp : (p.sections.get i).live) : p.KeepsRegistry (p.place i r) := fun h => by
  obtain ⟨-, clock, ⟨slots, held⟩, -, strangers, overwrites, -⟩ := p.place_sameButTrip i r
  obtain ⟨u, b, hu, e⟩ := p.place_cases i r
  have sections : (p.place i r).sections = p.sections.set i u := by rw [e]; simp
  have nodes : (p.place i r).nodes = p.nodes := by rw [e]; simp
  have zones : (p.place i r).zones = p.zones := by rw [e]; simp
  have at_i : (p.place i r).sections.get i = u := by rw [sections, Table.get_set_self]
  have other : ∀ j, j ≠ i → (p.place i r).sections.get j = p.sections.get j := fun j hj => by
    rw [sections, Table.get_set_of_ne _ _ hj]
  have naming : p.SameNaming (p.place i r) := by
    refine ⟨fun j => ?_, fun j => ?_, Device.causesLive_set h.names.causes sections zones (.inl hu.unlatched.1),
      fun n => by rw [nodes]; exact .refl _⟩
    · by_cases e : j = i
      · subst e; rw [at_i]; exact hr.trans hu.names
      · rw [other j e]; exact .refl _
    · by_cases e : j = i
      · subst e; rw [at_i]; exact iff_of_true hu.unlatched.1 hp
      · rw [other j e]
  exact h.of_names (naming.namesLawful strangers overwrites h.names) (.of_nodes naming.nodes) slots held (by rw [clock])

/-! ### Section commands -/

/-- R11: reference counts move no binding. -/
theorem Device.changeRefs_keepsBound (p : Device) (i : SecIx) (r : SectionRec) (f : NodeIx → Nat → Nat) :
    p.KeepsBound ((p.setSection i r).changeRefs f) := fun n hn => by
  simpa using hn

theorem Device.createSection_keepsRegistry (p : Device) (sec up zone phs prof : Byte) :
    p.KeepsRegistry (p.createSection sec up zone phs prof).1 := by
  rcases p.createSection_cases sec up zone phs prof with e | ⟨i, u, z, s, pr, hc, -, e⟩
  · rw [e]; exact .refl p
  · rw [e]
    exact fun h => h.of_names (h.names.create hc) (Device.changeRefs_keepsBound p i _ _) rfl rfl rfl

theorem Device.editSection_keepsRegistry (p : Device) (sec n1 n2 n3 n4 : Byte) (ta tb tc : Half) :
    p.KeepsRegistry (p.editSection sec n1 n2 n3 n4 ta tb tc).1 := by
  rcases p.editSection_cases sec n1 n2 n3 n4 ta tb tc with e | ⟨i, new, hd, hc, hl, e⟩
  · rw [e]; exact .refl p
  · rw [e]
    exact fun h => h.of_names (h.names.edit _ hd hc hl) (Device.changeRefs_keepsBound p i _ _) rfl rfl rfl

theorem Device.retireSection_keepsRegistry (ht : p.tripsLawful) (sec : Byte) :
    p.KeepsRegistry (p.retireSection sec).1 := by
  rcases p.retireSection_cases sec with e | ⟨i, -, hr, e⟩
  · rw [e]; exact .refl p
  · rw [e]
    have laws := (SectionRec.lawful_iff _).mp (ht.1 i)
    have live : (p.sections.get i).live := fun hv => by simp [SectionRec.retirable, hv] at hr
    have unlisted := Device.unlisted_of_not_pending ht (SectionRec.not_pending_of_retirable hr laws)
    exact fun h => h.of_names (h.names.retire live unlisted) (Device.changeRefs_keepsBound p i _ _) rfl rfl rfl

theorem Device.commitSection_keepsRegistry (p : Device) (sec : Byte) : p.KeepsRegistry (p.commitSection sec).1 := by
  rcases p.commitSection_cases sec with e | ⟨i, hd, e⟩
  · rw [e]; exact .refl p
  · rw [e]; exact Device.place_keepsRegistry (.refl _) (by simp [SectionRec.live, hd])

theorem Device.acknowledgeSection_keepsRegistry (p : Device) (sec : Byte) :
    p.KeepsRegistry (p.acknowledgeSection sec).1 := by
  rcases p.acknowledgeSection_cases sec with e | ⟨i, -, ha, e⟩
  · rw [e]; exact .refl p
  · rw [e]
    refine Device.place_keepsRegistry ⟨rfl, rfl, rfl, rfl⟩ fun hv => ?_
    simp [SectionRec.acknowledgeable, hv] at ha

theorem Device.recallSection_keepsRegistry (p : Device) (sec : Byte) : p.KeepsRegistry (p.recallSection sec).1 := by
  refine Device.SameButTrip.keepsRegistry ?_ (p.recallSection_follows sec)
  rcases p.recallSection_cases sec with e | ⟨i, -, e⟩
  · rw [e]; exact .refl p
  · rw [e]; exact p.setSection_sameButTrip i _

theorem Device.tuneSection_keepsRegistry (p : Device) (sec profile : Byte) (ta tb tc : Half) :
    p.KeepsRegistry (p.tuneSection sec profile ta tb tc).1 := by
  refine Device.SameButTrip.keepsRegistry ?_ (p.tuneSection_follows sec profile ta tb tc)
  rcases p.tuneSection_cases sec profile ta tb tc with e | ⟨i, pr, -, e⟩
  · rw [e]; exact .refl p
  · rw [e]; exact p.setSection_sameButTrip i _

/-! ### Zone commands -/

theorem Device.applyZone_sameButTrip (p : Device) (z : ZoneIx) (c : ZoneSettings) : p.SameButTrip (p.applyZone z c) := by
  have edge := (p.setZone_sameButTrip z ((p.zones.get z).withSettings c)).trans
    (Device.afterBreaker_sameButTrip _ z (p.zones.get z).isOpen)
  unfold Device.applyZone
  dsimp only
  split
  · refine edge.trans (Device.SameButTrip.foldl _ (fun q i => ?_) _ _)
    unfold Device.releaseRecord
    split
    · exact q.tripRequest_sameButTrip i
    · exact .refl q
  · exact edge

theorem Device.setZoneCommand_keepsRegistry (p : Device) (zone hz te ee : Byte) (tmo : Half) (db pol : Byte) :
    p.KeepsRegistry (p.setZoneCommand zone hz te ee tmo db pol).1 := by
  refine Device.SameButTrip.keepsRegistry ?_ (p.setZoneCommand_follows zone hz te ee tmo db pol)
  rcases p.setZoneCommand_cases zone hz te ee tmo db pol with e | ⟨z, c, e⟩
  · rw [e]; exact .refl p
  · rw [e]; exact p.applyZone_sameButTrip z c

theorem Device.tripZone_keepsRegistry (p : Device) (zone : Byte) : p.KeepsRegistry (p.tripZone zone).1 := by
  refine Device.SameButTrip.keepsRegistry ?_ (p.tripZone_follows zone)
  rcases p.tripZone_cases zone with e | ⟨z, ⟨-, -, e⟩ | ⟨-, -, e⟩ | ⟨-, e⟩⟩
  · rw [e]; exact .refl p
  · rw [e]; exact p.latchOutcome_sameButTrip z _
  · rw [e]; exact p.setZone_sameButTrip z _
  · rw [e]; exact p.setZone_sameButTrip z _

theorem Device.releaseTrip_keepsRegistry (p : Device) (zone : Byte) : p.KeepsRegistry (p.releaseTrip zone).1 := by
  refine Device.SameButTrip.keepsRegistry ?_ (p.releaseTrip_follows zone)
  rcases p.releaseTrip_cases zone with e | ⟨z, -, e⟩
  · rw [e]; exact .refl p
  · rw [e]; exact p.setZone_sameButTrip z _

/-! ### RESTART EVALUATION and the resets -/

/-- R86: a restart, no work being in hand. -/
theorem Device.restart_registry (h : p.RegistryLawful) (hh : p.held = HeldWork.empty) :
    p.restart.1.RegistryLawful := by
  rcases p.restart_cases with e | e
  · rw [e]; exact h
  · have naming := p.restart_follows.sameNaming h.names.causes
    refine ⟨naming.namesLawful e.strangers e.overwrites h.names, (Device.slotsLawful_iff _).mpr ?_⟩
    rw [e.slots, e.held, hh]
    exact ⟨.nil _ _, nofun, HeldWork.empty_lawful⟩

theorem Device.restartEvaluation_keepsRegistry (p : Device) : p.KeepsRegistry p.restartEvaluation.1 := fun h =>
  Device.restart_registry (p.finishWork_keepsRegistry h) (Device.finishWork_held h.held)

theorem Device.afterReset_registry (pins : ResetPins) (profiles : Table Profile 8) (now choices : Nat) :
    (Device.afterReset pins profiles now choices).RegistryLawful := by
  have node : ∀ n, (Device.afterReset pins profiles now choices).nodes.get n = Node.unbound := fun n => by
    simp [Device.afterReset]
  have record : ∀ i, (Device.afterReset pins profiles now choices).sections.get i = SectionRec.vacant := fun i => by
    simp [Device.afterReset]
  have vacant : ∀ i, ¬ ((Device.afterReset pins profiles now choices).sections.get i).live := fun i h => by
    rw [record] at h
    exact h rfl
  have stranger : ∀ k, (Device.afterReset pins profiles now choices).strangers.get k = none := fun k => by
    simp [Device.afterReset]
  refine ⟨⟨fun z i hi => ?_, ⟨fun n _ => node n, fun n hn => ?_, fun n => ?_, fun m n hm => ?_⟩,
    ⟨fun i hi => absurd hi (vacant i), fun i _ hi => absurd hi (vacant i), fun i hi => absurd hi (vacant i),
      fun i _ hi => absurd hi (vacant i), fun n => ?_⟩,
    ⟨Nat.zero_le _, fun k g hg => ?_, fun k _ g _ hg => ?_⟩⟩,
    (Device.slotsLawful_iff _).mpr ⟨.nil _ _, nofun, HeldWork.empty_lawful⟩⟩
  · simp [Device.afterReset, Zone.afterReset] at hi
  · rw [node] at hn; cases hn
  · rw [node]; exact Nat.zero_le _
  · rw [node] at hm; cases hm
  · rw [node, Device.timesNamed_eq]
    exact (List.countP_eq_zero.mpr fun i _ => by rw [record]; exact nofun).symm
  · rw [stranger] at hg; cases hg
  · rw [stranger] at hg; cases hg

/-! ### BIND NODE, UNBIND NODE and CLEAR STRANGER -/

/-- R39: no live record names a node whose reference count is zero. -/
theorem Device.unnamed_of_refs (h : p.topologyLawful) {n : NodeIx} (hn : (p.nodes.get n).refs = 0) {i : SecIx}
    (hi : (p.sections.get i).live) : n ∉ (p.sections.get i).nodes := fun k => by
  have named : 0 < p.timesNamed n := by
    rw [Device.timesNamed_eq]
    refine List.countP_pos_iff.mpr ⟨i, List.mem_finRange i, (SectionRec.namesNode_iff _ n).mpr ⟨hi, ?_⟩⟩
    simpa [SectionRec.nodes] using k
  obtain ⟨-, -, -, -, refs⟩ := h
  rw [← refs n, hn] at named
  exact Nat.lt_irrefl 0 named

/-- R33: one node record written. -/
theorem Device.nodesLawful_setNode {n : NodeIx} {r : Node} (h : p.nodesLawful) (hq : q.nodes = p.nodes.set n r)
    (hu : r.bound = false → r = Node.unbound) (hp : r.bound = true → r.phases ≠ PhaseSet.none) (hm : r.miss ≤ 255)
    (ha : r.bound = true → ∀ m, (p.nodes.get m).bound = true → (p.nodes.get m).addr ≠ r.addr) : q.nodesLawful := by
  obtain ⟨unbound, phases, miss, addr⟩ := h
  have at_n : q.nodes.get n = r := by rw [hq, Table.get_set_self]
  have other : ∀ m, m ≠ n → q.nodes.get m = p.nodes.get m := fun m e => by rw [hq, Table.get_set_of_ne _ _ e]
  refine ⟨fun m => ?_, fun m => ?_, fun m => ?_, fun m l => ?_⟩
  · by_cases e : m = n
    · rw [e, at_n]; exact hu
    · rw [other m e]; exact unbound m
  · by_cases e : m = n
    · rw [e, at_n]; exact hp
    · rw [other m e]; exact phases m
  · by_cases e : m = n
    · rw [e, at_n]; exact hm
    · rw [other m e]; exact miss m
  · by_cases em : m = n <;> by_cases el : l = n
    · rw [em, el]; exact fun _ _ _ => rfl
    · rw [em, at_n, other l el]; exact fun hr hl e => absurd e.symm (ha hr l hl)
    · rw [el, at_n, other m em]; exact fun hm hr e => absurd e (ha hr m hm)
    · rw [other m em, other l el]; exact addr m l

/-- R9, R39: one node record that no live record names written. -/
theorem Device.topologyLawful_setNode {n : NodeIx} {r : Node} (h : p.topologyLawful) (hs : q.sections = p.sections)
    (hq : q.nodes = p.nodes.set n r) (hn : (p.nodes.get n).refs = 0) (hr : r.refs = 0) : q.topologyLawful := by
  have unnamed := fun i hi => Device.unnamed_of_refs h hn (i := i) hi
  obtain ⟨bound, upstream, list, downstream, refs⟩ := h
  have other : ∀ m, m ≠ n → q.nodes.get m = p.nodes.get m := fun m e => by rw [hq, Table.get_set_of_ne _ _ e]
  unfold Device.topologyLawful
  rw [hs]
  refine ⟨fun i hi m hm => ?_, upstream, list, downstream, fun m => ?_⟩
  · rw [other m fun e => unnamed i hi (e ▸ hm)]
    exact bound i hi m hm
  · rw [Device.timesNamed_congr (p := p) fun i => by rw [hs]]
    by_cases e : m = n
    · rw [e, ← refs n, hq, Table.get_set_self, hr, hn]
    · rw [other m e]; exact refs m

/-- R48: no bound node holds a stranger's address. -/
theorem Device.stranger_unbound (h : p.strangersLawful) {k : Fin 3} {g : Sighting} (hg : p.strangers.get k = some g)
    (n : NodeIx) (hn : (p.nodes.get n).bound = true) : (p.nodes.get n).addr ≠ g.addr := by
  obtain ⟨-, sightings, -⟩ := h
  obtain ⟨-, -, free⟩ := sightings k g hg
  exact free n hn

theorem Device.overwrites_le (h : p.strangersLawful) : p.overwrites ≤ 15 := by
  obtain ⟨overwrites, -⟩ := h
  exact overwrites

/-- R33: an unbound record counts no references. -/
theorem Device.refs_of_unbound (h : p.nodesLawful) {n : NodeIx} (hn : (p.nodes.get n).bound = false) :
    (p.nodes.get n).refs = 0 := by
  obtain ⟨unbound, -⟩ := h
  rw [unbound n hn]
  rfl

/-- Sightings that stood and that no bound node's address meets. -/
theorem Device.strangersLawful_of_kept (h : p.strangersLawful) (ho : q.overwrites ≤ 15)
    (hs : ∀ k g, q.strangers.get k = some g → p.strangers.get k = some g)
    (hb : ∀ k g, q.strangers.get k = some g → ∀ n, (q.nodes.get n).bound = true → (q.nodes.get n).addr ≠ g.addr) :
    q.strangersLawful := by
  obtain ⟨-, sightings, distinct⟩ := h
  refine ⟨ho, fun k g hg => ?_, fun k l g g' hg hg' => distinct k l g g' (hs k g hg) (hs l g' hg')⟩
  obtain ⟨count, phases, -⟩ := sightings k g (hs k g hg)
  exact ⟨count, phases, hb k g hg⟩

/-- R36: an unbound node is bound to an address that no node is bound to. -/
theorem Device.NamesLawful.bind (h : p.NamesLawful) {n : NodeIx} {addr : Addr} {s : PhaseSet} (hs : s ≠ PhaseSet.none)
    (hn : (p.nodes.get n).bound = false) (ha : p.nodeOf addr = none) :
    ((p.setNode n (Node.fresh addr s)).dropStranger addr).NamesLawful := by
  have free := fun m => Device.nodeOf_none ha (n := m)
  have refs := Device.refs_of_unbound h.nodes hn
  refine ⟨h.causes, Device.nodesLawful_setNode (r := Node.fresh addr s) h.nodes rfl nofun (fun _ => hs) (Nat.zero_le _)
    (fun _ => free), Device.topologyLawful_setNode h.topology rfl rfl refs rfl, ?_⟩
  have kept : ∀ k g, ((p.setNode n (Node.fresh addr s)).dropStranger addr).strangers.get k = some g →
      p.strangers.get k = some g ∧ g.addr ≠ addr := fun k g hg => by
    have e : (if holdsAddr addr (p.strangers.get k) then none else p.strangers.get k) = some g := by
      simpa [Device.dropStranger] using hg
    split at e
    · cases e
    · rename_i hk
      exact ⟨e, fun ea => hk ((holdsAddr_iff addr _).mpr ⟨g, e, ea⟩)⟩
  refine Device.strangersLawful_of_kept h.strangers (Device.overwrites_le (p := p) h.strangers) (fun k g hg => (kept k g hg).1) fun k g hg m hm => ?_
  by_cases e : m = n
  · subst e
    have at_m : ((p.setNode m (Node.fresh addr s)).dropStranger addr).nodes.get m = Node.fresh addr s := by
      simp [Device.dropStranger]
    rw [at_m]
    exact fun ea => (kept k g hg).2 ea.symm
  · have other : ((p.setNode n (Node.fresh addr s)).dropStranger addr).nodes.get m = p.nodes.get m := by
      simp [Device.dropStranger, Table.get_set_of_ne _ _ e]
    rw [other] at hm ⊢
    exact Device.stranger_unbound h.strangers (kept k g hg).1 m hm

theorem Device.bindNode_keepsRegistry (p : Device) (node : Byte) (addr : Addr) (phs : Byte) :
    p.KeepsRegistry (p.bindNode node addr phs).1 := by
  rcases p.bindNode_cases node addr phs with e | ⟨n, s, hs, hn, ha, e⟩
  · rw [e]; exact .refl p
  · rw [e]
    refine fun h => h.of_names (h.names.bind hs hn ha) (fun m hm => ?_) rfl rfl rfl
    have other : ((p.setNode n (Node.fresh addr s)).dropStranger addr).nodes.get m = p.nodes.get m := by
      have e : m ≠ n := by rintro rfl; rw [hn] at hm; cases hm
      simp [Device.dropStranger, Table.get_set_of_ne _ _ e]
    rw [other]
    exact ⟨hm, rfl⟩

/-- R37: a node that no live record names is unbound, no work being in hand. -/
theorem Device.unbound_registry (h : p.RegistryLawful) (hh : p.held = HeldWork.empty) {n : NodeIx}
    (hn : (p.nodes.get n).refs = 0) : ((p.setNode n Node.unbound).removeFromSlots n).RegistryLawful := by
  obtain ⟨names, slots⟩ := h
  obtain ⟨stand, -, -⟩ := p.slotsLawful_iff.mp slots
  have other : ∀ m, m ≠ n → (p.setNode n Node.unbound).nodes.get m = p.nodes.get m := fun m e => by
    simp [Table.get_set_of_ne _ _ e]
  have bindings : ∀ m, ((p.setNode n Node.unbound).nodes.get m).bound = true →
      (p.nodes.get m).bound = true ∧ ((p.setNode n Node.unbound).nodes.get m).addr = (p.nodes.get m).addr := fun m hm => by
    have e : m ≠ n := by
      rintro rfl
      rw [Device.setNode_nodes, Table.get_set_self] at hm
      cases hm
    rw [other m e] at hm ⊢
    exact ⟨hm, rfl⟩
  let r : Device := { p.setNode n Node.unbound with slots := p.slots.map (Slot.removeNode n) }
  have removed : r.SlotsStand p.clock.epoch r.slots := by
    refine stand.of_epochs (by rw [List.map_map]; rfl) fun s hs => ?_
    obtain ⟨s, mem, rfl⟩ := List.mem_map.mp hs
    exact (stand.slots s mem).removeNode n other
  obtain ⟨closed, head, held⟩ := Device.closeOldest_slotsLawful removed hh 0
  exact ⟨⟨names.causes,
      Device.nodesLawful_setNode (r := Node.unbound) names.nodes rfl (fun _ => rfl) nofun (Nat.zero_le _) nofun,
      Device.topologyLawful_setNode names.topology rfl rfl hn rfl,
      Device.strangersLawful_of_bindings (p := p) rfl rfl bindings names.strangers⟩,
    (Device.slotsLawful_iff _).mpr ⟨closed.of_nodes rfl, head, held⟩⟩

theorem Device.unbindNode_keepsRegistry (p : Device) (node : Byte) : p.KeepsRegistry (p.unbindNode node).1 := by
  intro h
  have done := p.finishWork_keepsRegistry h
  unfold Device.unbindNode
  rcases p.finishWork.unbind_cases node with e | ⟨n, hn, e⟩
  · rw [e]; exact done
  · rw [e]
    exact Device.unbound_registry done (Device.finishWork_held h.held) hn

theorem Device.clearStranger_keepsRegistry (p : Device) (slot : Byte) : p.KeepsRegistry (p.clearStranger slot).1 := by
  unfold Device.clearStranger
  split
  · exact .refl p
  · rename_i k _
    intro h
    refine h.of_strangers (.of_eq rfl rfl rfl rfl) rfl rfl rfl ?_
    have kept : ∀ l g, (p.strangers.set k none).get l = some g → p.strangers.get l = some g := fun l g hg => by
      rw [Table.get_set] at hg
      split at hg
      · cases hg
      · exact hg
    refine Device.strangersLawful_of_kept h.names.strangers ?_ kept fun l g hg =>
      Device.stranger_unbound h.names.strangers (kept l g hg)
    show (if k = 2 then 0 else p.overwrites) ≤ 15
    split
    · exact Nat.zero_le _
    · exact Device.overwrites_le h.names.strangers

theorem Device.loadProfile_keepsRegistry (p : Device) (index : Byte) (sent : Profile) :
    p.KeepsRegistry (p.loadProfile index sent).1 := by
  unfold Device.loadProfile
  split
  · exact .refl p
  · exact fun h => ⟨⟨h.names.causes, h.names.nodes, h.names.topology, h.names.strangers⟩, h.slots⟩

end

/-! ### Every row -/

theorem State.answered_registry {s : State} {d : Device} {r : List Byte} (h : d.RegistryLawful) :
    (s.answered d r).device.RegistryLawful :=
  Device.KeepsRegistry.of_tables (p := d) (.of_eq (by simp) (by simp) (by simp) (by simp))
    ⟨by simp, by simp, by simp, by simp, by simp⟩ h

/-- Every row keeps the laws of names and slots. -/
theorem exec_registryLawful {s t : State} {c : Instr} (h : exec c s = .next t) (ht : s.device.tripsLawful)
    (hs : s.device.RegistryLawful) : t.device.RegistryLawful := by
  have answered : ∀ a : Answer, s.device.KeepsRegistry a.1 → (s.answered a.1 a.2).device.RegistryLawful :=
    fun a k => State.answered_registry (k hs)
  by_cases hw : writesTable c
  · cases c with
    | powerOnReset | rstNReset => cases h; exact Device.afterReset_registry _ _ _ _
    | restartEvaluation => cases h; exact answered _ s.device.restartEvaluation_keepsRegistry
    | loadProfile => cases h; exact answered _ (Device.loadProfile_keepsRegistry _ _ _)
    | bindNode => cases h; exact answered _ (Device.bindNode_keepsRegistry _ _ _ _)
    | unbindNode => cases h; exact answered _ (Device.unbindNode_keepsRegistry _ _)
    | clearStranger => cases h; exact answered _ (Device.clearStranger_keepsRegistry _ _)
    | createSection => cases h; exact answered _ (Device.createSection_keepsRegistry _ _ _ _ _ _)
    | editSection => cases h; exact answered _ (Device.editSection_keepsRegistry _ _ _ _ _ _ _ _ _)
    | commitSection => cases h; exact answered _ (Device.commitSection_keepsRegistry _ _)
    | recallSection => cases h; exact answered _ (Device.recallSection_keepsRegistry _ _)
    | tuneSection => cases h; exact answered _ (Device.tuneSection_keepsRegistry _ _ _ _ _ _)
    | acknowledgeSection => cases h; exact answered _ (Device.acknowledgeSection_keepsRegistry _ _)
    | retireSection => cases h; exact answered _ (Device.retireSection_keepsRegistry ht _)
    | setZone => cases h; exact answered _ (Device.setZoneCommand_keepsRegistry _ _ _ _ _ _ _ _)
    | tripZone => cases h; exact answered _ (Device.tripZone_keepsRegistry _ _)
    | releaseTrip => cases h; exact answered _ (Device.releaseTrip_keepsRegistry _ _)
    | _ => exact absurd hw id
  · exact Device.KeepsRegistry.eventLaw.exec h hw hs

/-- Settles O57: the laws of names and slots, with the cause lists naming live records, are kept by the row at the
front of the queue and by the part's own work. -/
theorem everyStepKeepsNodeTopologyAndSlotLaws : Obligations.EveryStepKeepsNodeTopologyAndSlotLaws := by
  intro s t h ht nodes topology strangers slots
  have start : s.device.RegistryLawful :=
    ⟨⟨Device.causesLive_of_tripsLawful ht, nodes, topology, strangers⟩, slots⟩
  have done : t.device.RegistryLawful := by
    rcases step_cases h with ⟨c, q, -, hc⟩ | ⟨-, rfl⟩
    · exact exec_registryLawful hc ht start
    · exact Device.KeepsRegistry.eventLaw.idle s start
  exact ⟨done.names.nodes, done.names.topology, done.names.strangers, done.slots⟩

end Sys2Proof.Machine

/-! ## What the section commands answer (O29 to O36)

One equation per outcome of each command; the statements of the family are put together from them. -/

namespace Sys2Proof.Machine

/-- R173: two commands answered alike leave the same state. -/
theorem State.next_answered {s : State} {a b : Answer} (h : a = b) :
    (.next (s.answered a.1 a.2) : Host.Outcome State Fault Refusal) = .next (s.answered b.1 b.2) := by rw [h]

/-- R180: the code of a command that may clamp. -/
theorem okOrClamped_byte {b : Bool} {P : Prop} (h : b = true ↔ P) :
    ((okOrClamped b).byte = 0x01#8 ↔ P) ∧ ((okOrClamped b).byte = 0x00#8 ↔ ¬ P) := by
  rw [← h]
  cases b <;> decide

/-! ### CREATE SECTION (O29) -/

/-- R9: some live section has the node as its upstream node. -/
theorem Device.isUpstream_iff (p : Device) (u : NodeIx) :
    p.isUpstream u = true ↔ ∃ j, (p.sections.get j).live ∧ (p.sections.get j).upstream = u := by
  simp [Device.isUpstream, Table.any_iff, SectionRec.live]

section
variable (p : Device) (i : SecIx) (u : NodeIx) (z : ZoneIx) (pr : ProfIx) {a b c : Bool}

theorem Device.createSection_refused (h : (a || b || c) = true) {code : ResultCode}
    (hc : p.createCheck i u ⟨a, b, c⟩ = some code) :
    p.createSection (natByte i.val) (natByte u.val) (natByte z.val) (bits8 false false false false false c b a)
      (natByte pr.val) = p.refuse code := by
  simp [Device.createSection, phaseSetParam_code, h, hc]

theorem Device.createSection_accepted (h : (a || b || c) = true) (hc : p.createCheck i u ⟨a, b, c⟩ = none) :
    p.createSection (natByte i.val) (natByte u.val) (natByte z.val) (bits8 false false false false false c b a)
      (natByte pr.val) = (p.create i u z ⟨a, b, c⟩ pr).accept .ok := by
  simp [Device.createSection, phaseSetParam_code, h, hc]

end

/-- R11, R15: one record and one reference count are written. -/
theorem Device.create_eq (p : Device) (i : SecIx) (u : NodeIx) (z : ZoneIx) (s : PhaseSet) (pr : ProfIx) :
    p.create i u z s pr =
      { p with
        sections := p.sections.set i (SectionRec.created u z s pr)
        nodes := p.nodes.set u { p.nodes.get u with refs := (p.nodes.get u).refs + 1 } } := by
  have nodes : (p.create i u z s pr).nodes
      = p.nodes.set u { p.nodes.get u with refs := (p.nodes.get u).refs + 1 } :=
    Table.eq_of_get fun n => by
      rw [Table.get_set]
      split
      · rename_i e; subst e; simp [Device.create]
      · rename_i e; simp [Device.create, e]
  rw [← nodes]
  rfl

/-- Settles O29: the checks of R14 in their order, and the record of R15. -/
theorem createSectionChecksThenCreates : Obligations.CreateSectionChecksThenCreates := by
  intro s i u z pr a b c habc
  dsimp only
  simp only [← Device.isUpstream_iff]
  have refused : ∀ code, s.device.createCheck i u ⟨a, b, c⟩ = some code →
      exec (.createSection (natByte i.val) (natByte u.val) (natByte z.val) (bits8 false false false false false c b a)
        (natByte pr.val)) s = .next (s.answered s.device [code.byte]) := fun _ hc =>
    State.next_answered (s.device.createSection_refused i u z pr habc hc)
  refine ⟨fun hv => ?_, fun hv hb => ?_, fun hv hb hs => ?_, fun hv hb hs hc => ?_, fun hv hb hs hc => ?_⟩
  · exact refused .badState (by simp [Device.createCheck, hv])
  · exact refused .badTopology (by simp [Device.createCheck, hv, hb])
  · exact refused .inUse (by simp [Device.createCheck, hv, hb, hs])
  · exact refused .badTopology (by simp [Device.createCheck, hv, hb, hs, hc])
  · have accepted := s.device.createSection_accepted i u z pr habc (by simp [Device.createCheck, hv, hb, hs, hc])
    rw [Device.create_eq] at accepted
    exact State.next_answered accepted

/-! ### EDIT SECTION (O31) -/

/-- R16: a node field of a command that names a node, or none. -/
theorem nodeField_coded (f : Option NodeIx) : nodeField ((f.map fun n => natByte n.val).getD 255#8) = some f := by
  cases f with
  | none => exact nodeField_none
  | some n => exact nodeField_node n

/-- R16: the checks go on after the nodes that pass. -/
theorem Device.editCheck_append (p : Device) (i : SecIx) (earlier before rest : List NodeIx)
    (h : ∀ k m, before[k]? = some m →
      p.editFits i (earlier ++ before.take k) m ∧ ¬ p.downstreamElsewhere i m) :
    p.editCheck i earlier (before ++ rest) = p.editCheck i (earlier ++ before) rest := by
  induction before generalizing earlier with
  | nil => simp
  | cons n before ih =>
    have first : p.editNodeCheck i earlier n = none :=
      (p.editNodeCheck_none i earlier n).mpr (by simpa using h 0 n rfl)
    have later := ih (earlier ++ [n]) fun k m hk => by simpa using h (k + 1) m hk
    rw [List.cons_append, Device.editCheck, first]
    simpa using later

section
variable (p : Device) (i : SecIx) (f1 f2 f3 f4 : Option NodeIx) (ta tb tc : Half)

/-- R13, R16: EDIT SECTION with its fields in range. -/
theorem Device.editSection_coded :
    p.editSection (natByte i.val) ((f1.map fun n => natByte n.val).getD 255#8)
        ((f2.map fun n => natByte n.val).getD 255#8) ((f3.map fun n => natByte n.val).getD 255#8)
        ((f4.map fun n => natByte n.val).getD 255#8) ta tb tc =
      if (p.sections.get i).state ≠ .draft then p.refuse .badState
      else ((p.editCheck i [] ([f1, f2, f3, f4].filterMap id)).map p.refuse).getD
        ((p.edit i ([f1, f2, f3, f4].filterMap id) (tapFields ta tb tc)).accept
          (okOrClamped ((p.sections.get i).tapClamped (tapFields ta tb tc)))) := by
  unfold Device.editSection newDownstream
  rw [sectionParam, nodeField_coded, nodeField_coded, nodeField_coded, nodeField_coded]
  dsimp only
  split
  · rfl
  · cases p.editCheck i [] ([f1, f2, f3, f4].filterMap id) <;> rfl

end

/-- R17, R20: some tap of the record's phases is beyond the range. -/
theorem SectionRec.tapClamped_iff (r : SectionRec) (ta tb tc : Half) :
    r.tapClamped (tapFields ta tb tc) = true ↔
      (r.phases.a = true ∧ 32767 < ta.toNat) ∨ (r.phases.b = true ∧ 32767 < tb.toNat)
        ∨ (r.phases.c = true ∧ 32767 < tc.toNat) := by
  simp only [SectionRec.tapClamped, allPhases, List.any_cons, List.any_nil, Bool.or_false, Bool.or_eq_true,
    Bool.and_eq_true, decide_eq_true_eq]
  rfl

/-- R11: the reference counts once one list stands in place of another. -/
theorem listDifference_eq (old new : List NodeIx) (n : NodeIx) (k : Nat) :
    listDifference old new n k =
      if n ∈ new ∧ n ∉ old then k + 1 else if n ∈ old ∧ n ∉ new then k - 1 else k := by
  by_cases hn : n ∈ new <;> by_cases ho : n ∈ old <;> simp [listDifference, hn, ho]

/-- Settles O31: the first node that fails decides; a list that passes is installed. -/
theorem editSectionChecksThenInstalls : Obligations.EditSectionChecksThenInstalls := by
  intro s i f1 f2 f3 f4 ta tb tc
  dsimp only
  have answer := s.device.editSection_coded i f1 f2 f3 f4 ta tb tc
  generalize [f1, f2, f3, f4].filterMap id = new at answer ⊢
  refine ⟨fun hd => ?_, fun before n rest hd hn hb => ?_, fun hd hn => ?_⟩
  · rw [if_pos hd] at answer
    exact State.next_answered answer
  · have check : s.device.editCheck i [] new = s.device.editCheck i before (n :: rest) := by
      rw [hn, Device.editCheck_append _ _ _ _ _ (by simpa using hb), List.nil_append]
    obtain ⟨bad, used, -⟩ := s.device.editNodeCheck_eq i before n
    rw [if_neg (not_not.mpr hd), check, Device.editCheck] at answer
    refine ⟨fun hf => ?_, fun hf he => ?_⟩
    · rw [bad hf] at answer
      exact State.next_answered answer
    · rw [used hf he] at answer
      exact State.next_answered answer
  · have check : s.device.editCheck i [] new = none := by
      have := s.device.editCheck_append i [] new [] (by simpa using hn)
      rwa [List.append_nil] at this
    rw [if_neg (not_not.mpr hd), check] at answer
    obtain ⟨clamped, ok⟩ := okOrClamped_byte ((s.device.sections.get i).tapClamped_iff ta tb tc)
    refine ⟨s.device.edit i new (tapFields ta tb tc), _, State.next_answered answer, clamped, ok, rfl, rfl, fun n => ?_⟩
    rw [← listDifference_eq]
    simp [Device.edit]

/-! ### COMMIT and ACKNOWLEDGE SECTION (O32) -/

theorem Health.bad_iff (h : Health) : h.bad = true ↔ h = .stale ∨ h = .faulty := by cases h <;> simp [Health.bad]

theorem Device.namesBadNode_iff (p : Device) (r : SectionRec) : p.namesBadNode r = true ↔ p.namesBad r := by
  simp [Device.namesBadNode, Device.namesBad, Health.bad_iff]

/-- R8: the placement test. -/
theorem Device.place_placed (p : Device) (i : SecIx) (r : SectionRec) : p.Placed i r (p.place i r) := by
  unfold Device.Placed Device.place Device.placeEnergized
  simp only [← Device.namesBadNode_iff]
  refine ⟨fun he => ?_, fun he hb => ?_, fun he hb => ?_⟩
  · simp [he]
  · simp [he, hb]
  · simp [he, hb, Device.profileOf]

theorem SectionRec.acknowledgeable_iff (r : SectionRec) :
    r.acknowledgeable = true ↔ r.state = .suspect ∨ r.state = .isolated
      ∨ r.state = .confirmed ∧ (r.mark = .withheld ∨ r.mark = .failed) := by
  cases hs : r.state <;> simp [SectionRec.acknowledgeable, hs]

/-- Settles O32: the states that each command takes, and the placement test. -/
theorem commitAndAcknowledgePlaceTheRecord : Obligations.CommitAndAcknowledgePlaceTheRecord := by
  refine ⟨fun s i => ?_, fun r prof => ⟨rfl, rfl, rfl, fun h => ?_, fun h => ?_⟩⟩
  · dsimp only
    rw [← SectionRec.acknowledgeable_iff]
    refine ⟨fun hd => ?_, fun hd ha => ?_, fun hd ha => ⟨_, ?_, s.device.place_placed i _⟩, fun ha => ?_,
      fun ha => ⟨_, ?_, s.device.place_placed i _⟩⟩
    · exact State.next_answered (b := s.device.refuse .badState) (by simp [Device.commitSection, hd])
    · exact State.next_answered (b := s.device.refuse .notReady) (by simp [Device.commitSection, hd, ha])
    · exact State.next_answered (b := (s.device.place i (s.device.sections.get i)).accept .ok)
        (by simp [Device.commitSection, hd, ha])
    · exact State.next_answered (b := s.device.refuse .badState) (by simp [Device.acknowledgeSection, ha])
    · exact State.next_answered (b := (s.device.place i (s.device.sections.get i).acknowledged).accept .ok)
        (by simp [Device.acknowledgeSection, ha])
  · dsimp only
    rw [SectionRec.enterSettling, if_neg h]
    rfl
  · dsimp only
    rw [SectionRec.enterSettling, if_pos h, h]
    rfl

/-! ### RECALL and RETIRE SECTION (O33) -/

theorem Device.recallSection_accepted {p : Device} {i : SecIx} (h : (p.sections.get i).state = .settling
      ∨ (p.sections.get i).state = .armed ∨ (p.sections.get i).state = .suspect ∨ (p.sections.get i).state = .blind
      ∨ (p.sections.get i).state = .dormant) :
    p.recallSection (natByte i.val) = (p.setSection i (p.sections.get i).recall).accept .ok := by
  rcases h with h | h | h | h | h <;> simp [Device.recallSection, h]

theorem Device.recallSection_refused {p : Device} {i : SecIx} (h : (p.sections.get i).state = .confirmed
      ∨ (p.sections.get i).state = .isolated ∨ (p.sections.get i).state = .vacant) :
    p.recallSection (natByte i.val) = p.refuse .badState := by
  rcases h with h | h | h <;> simp [Device.recallSection, h]

theorem SectionRec.retirable_iff (r : SectionRec) :
    r.retirable = true ↔ r.state ≠ .vacant ∧ ¬ (r.state = .confirmed ∧ r.mark = .pending) := by
  cases hs : r.state <;> simp [SectionRec.retirable, hs]

/-- Settles O33: RECALL SECTION and RETIRE SECTION by the record's state. -/
theorem recallAndRetireReleaseTheRecord : Obligations.RecallAndRetireReleaseTheRecord := by
  refine ⟨fun s i => ?_, fun s i => ?_⟩
  · refine ⟨fun h => ⟨State.next_answered (Device.recallSection_accepted h), fun _ => rfl, rfl⟩, fun h => ?_,
      fun h => State.next_answered (Device.recallSection_refused h)⟩
    exact State.next_answered (b := s.device.accept .ok) (by simp [Device.recallSection, h])
  · refine ⟨fun h => ?_, fun hv hp => ?_⟩
    · have not_retirable : ¬ (s.device.sections.get i).retirable = true := fun k => by
        obtain ⟨hv, hp⟩ := (SectionRec.retirable_iff _).mp k
        exact h.elim hv hp
      exact State.next_answered (b := s.device.refuse .badState) (by simp [Device.retireSection, not_retirable])
    · have retirable := (SectionRec.retirable_iff _).mpr ⟨hv, hp⟩
      refine ⟨s.device.retire i, State.next_answered (b := (s.device.retire i).accept .ok)
        (by simp [Device.retireSection, retirable]), rfl, fun n => ?_⟩
      simp only [Device.retire, Device.changeRefs, Device.setSection_nodes, Table.get_mapIdx, SectionRec.nodes,
        List.mem_cons]
      split <;> rfl

/-! ### TUNE SECTION (O34) -/

/-- R21: a watched record settles again under the profile. -/
theorem SectionRec.afterTune_watched (prof : Profile) {r : SectionRec}
    (h : r.state = .armed ∨ r.state = .suspect ∨ r.state = .settling) : r.afterTune prof = r.enterSettling prof := by
  rcases h with h | h | h <;> simp [SectionRec.afterTune, h]

theorem SectionRec.afterTune_unwatched (prof : Profile) {r : SectionRec}
    (h : r.state = .draft ∨ r.state = .blind ∨ r.state = .dormant) : r.afterTune prof = r := by
  rcases h with h | h | h <;> simp [SectionRec.afterTune, h]

section
variable (p : Device) (i : SecIx) (pr : ProfIx) (ta tb tc : Half)

theorem Device.tuneSection_refused (h : (p.sections.get i).state.tunable = false) :
    p.tuneSection (natByte i.val) (natByte pr.val) ta tb tc = p.refuse .badState := by
  simp [Device.tuneSection, h]

theorem Device.tuneSection_accepted (h : (p.sections.get i).state.tunable = true) :
    p.tuneSection (natByte i.val) (natByte pr.val) ta tb tc =
      (p.setSection i (((p.sections.get i).tuned pr (tapFields ta tb tc)).afterTune (p.profiles.get pr))).accept
        (okOrClamped ((p.sections.get i).tapClamped (tapFields ta tb tc))) := by
  simp [Device.tuneSection, h]

end

/-- Settles O34: TUNE SECTION by the record's state. -/
theorem tuneSectionRewritesAndResettles : Obligations.TuneSectionRewritesAndResettles := by
  intro s i pr ta tb tc
  dsimp only
  obtain ⟨clamped, ok⟩ := okOrClamped_byte ((s.device.sections.get i).tapClamped_iff ta tb tc)
  refine ⟨fun h => ?_, fun h => ⟨_, ?_, clamped, ok⟩, fun h => ⟨_, ?_, clamped, ok⟩⟩
  · exact State.next_answered (s.device.tuneSection_refused i pr ta tb tc (by rcases h with h | h | h <;> rw [h] <;> rfl))
  · have accepted := s.device.tuneSection_accepted i pr ta tb tc (by rcases h with h | h | h <;> rw [h] <;> rfl)
    rw [SectionRec.afterTune_watched _ (r := (s.device.sections.get i).tuned pr (tapFields ta tb tc)) h] at accepted
    exact State.next_answered accepted
  · have accepted := s.device.tuneSection_accepted i pr ta tb tc (by rcases h with h | h | h <;> rw [h] <;> rfl)
    rw [SectionRec.afterTune_unwatched _ (r := (s.device.sections.get i).tuned pr (tapFields ta tb tc)) h] at accepted
    exact State.next_answered accepted

end Sys2Proof.Machine

/-! ## Reading, scanning, indices out of range, and the resets (O35, O36, O30, O5) -/

namespace Sys2Proof.Machine

/-! ### READ SECTION (O35) -/

/-- A two-byte result field reads back as its value. -/
theorem halfBytes_value (h : Half) : 256 * (hiByte h).toNat + (loByte h).toNat = h.toNat := by
  have bound := h.isLt
  simp only [hiByte, loByte, BitVec.extractLsb'_toNat, Nat.shiftRight_eq_div_pow]
  omega

/-- R182: the bits of a phase set. -/
theorem phaseSetByte_toNat (s : PhaseSet) :
    (phaseSetByte s).toNat = s.a.toNat + 2 * s.b.toNat + 4 * s.c.toNat := by
  have table : ∀ a b c : Bool, (bits8 false false false false false c b a).toNat
      = a.toNat + 2 * b.toNat + 4 * c.toNat := by decide
  exact table s.a s.b s.c

/-- R185: a byte of two flags. -/
theorem twoFlags_toNat : ∀ high low : Bool,
    (bits8 false false false false false false high low).toNat = 2 * high.toNat + low.toNat := by decide

theorem TripMark.code_lt (m : TripMark) : m.code < 256 := by cases m <;> decide

theorem SecState.code_lt (s : SecState) : s.code < 256 := by cases s <;> decide

/-- R25: the downstream fields read the list, then 255. -/
theorem downstreamBytes_toNat (l : List NodeIx) {k : Nat} (h : k < 4) :
    ((downstreamBytes l).getD k 0xFF#8).toNat = (l[k]?.map Fin.val).getD 255 := by
  rw [downstreamBytes, List.getD_eq_getElem?_getD, List.getElem?_map, List.getElem?_range h]
  cases hl : l[k]? with
  | none => simp [hl]
  | some n => simpa [hl] using natByte_toNat (k := n.val) (by omega)

/-- A two-byte field holding a number in range. -/
theorem natHalf_value {n : Nat} (h : n < 65536) :
    256 * (hiByte (BitVec.ofNat 16 n)).toNat + (loByte (BitVec.ofNat 16 n)).toNat = n := by
  rw [halfBytes_value, BitVec.toNat_ofNat]
  exact Nat.mod_eq_of_lt h

/-- R25, R26: READ SECTION answers OK and the record. -/
theorem Device.readSection_answer (p : Device) (i : SecIx) :
    p.readSection (natByte i.val) = (p, 0x00#8 :: (p.sections.get i).bytes) := by
  simp [Device.readSection, ResultCode.byte]

theorem SectionRec.bytes_vacant {r : SectionRec} (h : r.state = .vacant) : r.bytes = List.replicate 30 0#8 := if_pos h

theorem SectionRec.bytes_live {r : SectionRec} (h : r.live) : r.bytes = r.liveBytes := if_neg h

/-- R185: the cause byte of a present cause. -/
theorem causeByte_some (kind : CauseKind) (ph : Phase) :
    (causeByte (some ⟨kind, ph⟩)).toNat = 128 + (if kind = .ground then 64 else 0) + Phase.code ph := by
  cases kind <;> cases ph <;> rfl

/-- Settles O35: each field of the record at its offset. -/
theorem readSectionReturnsRecordByOffsets : Obligations.ReadSectionReturnsRecordByOffsets := by
  intro s i
  dsimp only
  generalize hr : s.device.sections.get i = r
  have answer := s.device.readSection_answer i
  rw [hr] at answer
  refine ⟨0x00#8 :: r.bytes, State.next_answered answer, ?_, rfl, fun hv k h1 h30 => ?_, fun hl => ?_⟩
  · by_cases hv : r.state = .vacant
    · rw [SectionRec.bytes_vacant hv]; rfl
    · rw [SectionRec.bytes_live hv]; rfl
  · rw [SectionRec.bytes_vacant hv, List.getD_eq_getElem?_getD, ← List.replicate_succ, List.getElem?_replicate,
      if_pos (by omega)]
    rfl
  · rw [SectionRec.bytes_live hl]
    refine ⟨?_, ?_, fun k hk => ?_, ?_, ?_, ?_, fun hlaw => ?_, ?_, ?_, ?_, ?_, ?_, ?_⟩
    · exact (natByte_toNat r.state.code_lt).trans (by cases r.state <;> rfl)
    · exact natByte_toNat (by omega)
    · refine Eq.trans (congrArg BitVec.toNat ?_) (downstreamBytes_toNat r.downstream hk)
      rcases k with _ | _ | _ | _ | k
      · rfl
      · rfl
      · rfl
      · rfl
      · omega
    · exact natByte_toNat (by omega)
    · exact natByte_toNat (by omega)
    · exact phaseSetByte_toNat r.phases
    · obtain ⟨-, -, -, -, -, -, -, -, settle, -, bounds, -, -⟩ := hlaw
      have score : ∀ n : Nat, n ≤ 255 → (natByte n).toNat = n := fun n h => natByte_toNat (by omega)
      have tap : ∀ ph, (r.tap.get ph) < 65536 := fun ph => by have := (bounds ph).2.2; omega
      exact ⟨natHalf_value (tap .a), natHalf_value (tap .b), natHalf_value (tap .c), score _ (bounds .a).1,
        score _ (bounds .b).1, score _ (bounds .c).1, score _ (bounds .a).2.1, score _ (bounds .b).2.1,
        score _ (bounds .c).2.1, score _ settle⟩
    · exact (natByte_toNat r.mark.code_lt).trans (by cases r.mark <;> rfl)
    · exact twoFlags_toNat r.inconsistent r.escalated
    · change (causeByte r.cause).toNat = _
      rcases r.cause with _ | ⟨kind, ph⟩
      · rfl
      · exact (causeByte_some kind ph).trans (by cases ph <;> rfl)
    · exact twoFlags_toNat r.confirmEpoch.isSome r.firstHit.isSome
    · exact halfBytes_value (r.firstHit.getD 0#16)
    · exact halfBytes_value (r.confirmEpoch.getD 0#16)

/-! ### SCAN SECTIONS (O36) -/

/-- The first index that passes a test is the one found. -/
theorem find?_finRange {n : Nat} {f : Fin n → Bool} {i : Fin n} (hi : f i = true) (h : ∀ j, j < i → f j = false) :
    (List.finRange n).find? f = some i := by
  refine List.find?_eq_some_iff_getElem.mpr ⟨hi, i.val, by simp, by simp, fun j hj => ?_⟩
  have := h ⟨j, by omega⟩ hj
  simp [this]

theorem scanCompareParam_holds {b : Byte} (h : b.toNat < 3) :
    ∃ c, scanCompareParam b = some c ∧ ∀ v k, c.holds v k = true ↔ scanCompares b v k := by
  unfold scanCompareParam scanCompares
  have codes : b.toNat = 0 ∨ b.toNat = 1 ∨ b.toNat = 2 := by omega
  rcases codes with e | e | e <;> rw [e] <;> exact ⟨_, rfl, by simp [ScanCompare.holds]⟩

/-- R27: the test that a field code and a comparison code choose. -/
theorem scanTest_params {field comparison : Byte} (hf : field.toNat < 6) (hc : field.toNat = 3 ∨ comparison.toNat < 3) :
    ∃ f c, scanFieldParam field = some f ∧ scanComparison f comparison = some c
      ∧ ∀ (key : Byte) (r : SectionRec), r.scanMatches f c key.toNat = true ↔ r.scanTest field comparison key := by
  unfold scanFieldParam SectionRec.scanTest
  by_cases h3 : field.toNat = 3
  · rw [h3]
    exact ⟨.anyNode, .equal, rfl, rfl, fun key r => by simp [SectionRec.scanMatches]⟩
  · obtain ⟨c, hcomp, holds⟩ := scanCompareParam_holds (hc.resolve_left h3)
    have codes : field.toNat = 0 ∨ field.toNat = 1 ∨ field.toNat = 2 ∨ field.toNat = 4 ∨ field.toNat = 5 := by omega
    rcases codes with e | e | e | e | e <;> rw [e] <;> exact ⟨_, c, rfl, hcomp, fun key r => holds _ _⟩

/-- R28: the record is live and meets the test. -/
theorem Device.scanFrom_test (p : Device) (start : SecIx) (f : ScanField) (c : ScanCompare) (key : Nat) (i : SecIx) :
    (decide (start ≤ i) && (p.sections.get i).state != .vacant && (p.sections.get i).scanMatches f c key) = true
      ↔ start ≤ i ∧ (p.sections.get i).live ∧ (p.sections.get i).scanMatches f c key = true := by
  simp [SectionRec.live, and_assoc]

theorem Device.scanFrom_none {p : Device} {start : SecIx} {f : ScanField} {c : ScanCompare} {key : Nat}
    (h : ∀ i, start ≤ i → ¬ ((p.sections.get i).live ∧ (p.sections.get i).scanMatches f c key = true)) :
    p.scanFrom start f c key = none :=
  List.find?_eq_none.mpr fun i _ k =>
    let ⟨hs, hit⟩ := (p.scanFrom_test start f c key i).mp k
    h i hs hit

theorem Device.scanFrom_some {p : Device} {start i : SecIx} {f : ScanField} {c : ScanCompare} {key : Nat}
    (hs : start ≤ i) (hi : (p.sections.get i).live ∧ (p.sections.get i).scanMatches f c key = true)
    (h : ∀ j, start ≤ j → j < i → ¬ ((p.sections.get j).live ∧ (p.sections.get j).scanMatches f c key = true)) :
    p.scanFrom start f c key = some i :=
  find?_finRange ((p.scanFrom_test start f c key i).mpr ⟨hs, hi⟩) fun j hj => eq_false_of_ne_true fun k =>
    let ⟨hs, hit⟩ := (p.scanFrom_test start f c key j).mp k
    h j hs hj hit

/-- Settles O36: the first live record that meets the test, or NONE. -/
theorem scanSectionsFindsFirstMatch : Obligations.ScanSectionsFindsFirstMatch := by
  intro s start field comparison key hf hc p stateCode scan hit
  obtain ⟨f, c, hfield, hcomp, test⟩ := scanTest_params hf hc
  have codes : ∀ st : SecState, st.code = stateCode st := fun st => by cases st <;> rfl
  have hits : ∀ i, hit i ↔ (p.sections.get i).live ∧ (p.sections.get i).scanMatches f c key.toNat = true := fun i =>
    and_congr_right' (test key _).symm
  simp only [hits, ← codes]
  refine ⟨fun _ => trivial, fun none => ?_, fun i hs hi first => ?_⟩
  · refine State.next_answered (b := p.accept .none) ?_
    simp [p, Device.scanSections, hfield, hcomp, Device.scanFrom_none none]
  · refine State.next_answered (b := (p, ResultCode.ok.byte :: (p.sections.get i).scanBytes i)) ?_
    simp [p, Device.scanSections, hfield, hcomp, Device.scanFrom_some hs hi first]

/-! ### Indices and values out of range (O30) -/

theorem indexParam_inRange {n : Nat} {b : Byte} (h : b.toNat < n) : indexParam n b = some ⟨b.toNat, h⟩ := dif_pos h

section
variable (p : Device) {i u z phs pr : Byte}

theorem Device.createSection_badIndex (h : 128 ≤ i.toNat ∨ 64 ≤ u.toNat ∨ 8 ≤ pr.toNat) :
    p.createSection i u z phs pr = p.refuse .badIndex := by
  unfold Device.createSection
  split
  · rename_i hi hu hpr
    rcases h with h | h | h
    · rw [indexParam_none h] at hi; cases hi
    · rw [indexParam_none h] at hu; cases hu
    · rw [indexParam_none h] at hpr; cases hpr
  · rfl

theorem Device.createSection_badValue (hi : i.toNat < 128) (hu : u.toNat < 64) (hpr : pr.toNat < 8)
    (h : 4 ≤ z.toNat ∨ phs.toNat = 0 ∨ 7 < phs.toNat) : p.createSection i u z phs pr = p.refuse .badValue := by
  unfold Device.createSection
  rw [indexParam_inRange hi, indexParam_inRange hu, indexParam_inRange hpr]
  dsimp only
  split
  · rename_i hz hs
    rcases h with h | h
    · rw [indexParam_none h] at hz; cases hz
    · rw [phaseSetParam_none h] at hs; cases hs
  · rfl

/-- R16: a node field out of range leaves no new list. -/
theorem newDownstream_none {n1 n2 n3 n4 : Byte} (h : ∃ n ∈ [n1, n2, n3, n4], 64 ≤ n.toNat ∧ n ≠ 255#8) :
    newDownstream n1 n2 n3 n4 = none := by
  obtain ⟨n, hn, hr, ha⟩ := h
  have out := nodeField_out hr ha
  unfold newDownstream
  split
  · rename_i h1 h2 h3 h4
    simp only [List.mem_cons, List.not_mem_nil, or_false] at hn
    rcases hn with rfl | rfl | rfl | rfl
    · rw [out] at h1; cases h1
    · rw [out] at h2; cases h2
    · rw [out] at h3; cases h3
    · rw [out] at h4; cases h4
  · rfl

theorem Device.editSection_badIndex {n1 n2 n3 n4 : Byte} (ta tb tc : Half)
    (h : 128 ≤ i.toNat ∨ ∃ n ∈ [n1, n2, n3, n4], 64 ≤ n.toNat ∧ n ≠ 255#8) :
    p.editSection i n1 n2 n3 n4 ta tb tc = p.refuse .badIndex := by
  unfold Device.editSection
  split
  · rename_i hi hn
    rcases h with h | h
    · rw [indexParam_none h] at hi; cases hi
    · rw [newDownstream_none h] at hn; cases hn
  · rfl

theorem Device.tuneSection_badIndex (ta tb tc : Half) (h : 128 ≤ i.toNat ∨ 8 ≤ pr.toNat) :
    p.tuneSection i pr ta tb tc = p.refuse .badIndex := by
  unfold Device.tuneSection
  split
  · rename_i hi hpr
    rcases h with h | h
    · rw [indexParam_none h] at hi; cases hi
    · rw [indexParam_none h] at hpr; cases hpr
  · rfl

theorem Device.scanSections_badIndex (f c k : Byte) (h : 128 ≤ i.toNat) :
    p.scanSections i f c k = p.refuse .badIndex := by
  simp [Device.scanSections, indexParam_none h]

/-- R27: field codes end at 5. -/
theorem scanFieldParam_none {f : Byte} (h : 6 ≤ f.toNat) : scanFieldParam f = none := by
  unfold scanFieldParam
  split
  case h_7 => rfl
  all_goals omega

theorem scanCompareParam_none {c : Byte} (h : 3 ≤ c.toNat) : scanCompareParam c = none := by
  unfold scanCompareParam
  split
  case h_4 => rfl
  all_goals omega

/-- R27: the comparison is examined for every field but ANY NODE. -/
theorem scanComparison_none {f c : Byte} {g : ScanField} (hg : scanFieldParam f = some g) (hf : f.toNat ≠ 3)
    (hc : 3 ≤ c.toNat) : scanComparison g c = none := by
  have none := scanCompareParam_none hc
  cases g with
  | anyNode =>
    unfold scanFieldParam at hg
    split at hg <;> contradiction
  | _ => exact none

theorem Device.scanSections_badValue (f c k : Byte) (hi : i.toNat < 128)
    (h : 6 ≤ f.toNat ∨ f.toNat ≠ 3 ∧ 3 ≤ c.toNat) : p.scanSections i f c k = p.refuse .badValue := by
  unfold Device.scanSections
  rw [indexParam_inRange hi]
  dsimp only
  split
  · rfl
  · rename_i g hg
    rcases h with h | ⟨hf, hc⟩
    · rw [scanFieldParam_none h] at hg; cases hg
    · rw [scanComparison_none hg hf hc]

end

/-- Settles O30: each command that takes an index judges it first. -/
theorem indexChecksComeBeforeValueChecks : Obligations.IndexChecksComeBeforeValueChecks := by
  intro s i u z phs pr
  refine ⟨fun h => State.next_answered (s.device.createSection_badIndex h),
    fun hi hu hpr h => State.next_answered (s.device.createSection_badValue hi hu hpr h),
    fun _ _ _ _ ta tb tc h => State.next_answered (s.device.editSection_badIndex ta tb tc h),
    fun ta tb tc h => State.next_answered (s.device.tuneSection_badIndex ta tb tc h),
    fun f c k h => State.next_answered (s.device.scanSections_badIndex f c k h),
    fun f c k hi h => State.next_answered (s.device.scanSections_badValue f c k hi h), fun h c hc => ?_⟩
  have index := indexParam_none h
  simp only [List.mem_cons, List.not_mem_nil, or_false] at hc
  rcases hc with rfl | rfl | rfl | rfl | rfl
  · exact State.next_answered (b := s.device.refuse .badIndex) (by simp [Device.commitSection, index])
  · exact State.next_answered (b := s.device.refuse .badIndex) (by simp [Device.recallSection, index])
  · exact State.next_answered (b := s.device.refuse .badIndex) (by simp [Device.acknowledgeSection, index])
  · exact State.next_answered (b := s.device.refuse .badIndex) (by simp [Device.retireSection, index])
  · exact State.next_answered (b := s.device.refuse .badIndex) (by simp [Device.readSection, index])

/-! ### The resets (O5) -/

/-- R4, R34, R48, R129: the tables that a reset leaves. -/
theorem Device.afterReset_tables (pins : ResetPins) (profiles : Table Profile 8) (now choices : Nat) :
    let p := Device.afterReset pins profiles now choices
    (∀ i, p.sections.get i = SectionRec.vacant) ∧ (∀ n, p.nodes.get n = Node.unbound)
      ∧ (∀ k, p.strangers.get k = none) ∧ ∀ z, p.zones.get z = Zone.afterReset (pins.brk.getLsbD z.val) := by
  refine ⟨fun i => ?_, fun n => ?_, fun k => ?_, fun z => ?_⟩ <;> simp [Device.afterReset]

/-- Settles O5: both resets leave the part at its reset values, whatever the Profile Table holds. -/
theorem resetsLeaveTheStatedValues : Obligations.ResetsLeaveTheStatedValues := by
  intro pins s c hc
  obtain ⟨profiles, h⟩ : ∃ profiles, exec c s =
      .next { s with device := Device.afterReset pins profiles s.device.now s.device.choices } := by
    rcases hc with rfl | rfl
    · exact ⟨_, rfl⟩
    · exact ⟨_, rfl⟩
  obtain ⟨sections, nodes, strangers, zones⟩ :=
    Device.afterReset_tables pins profiles s.device.now s.device.choices
  exact ⟨_, h, rfl, sections, nodes, strangers, rfl, rfl, rfl, rfl, rfl, rfl, rfl, rfl, rfl, rfl, rfl, rfl, rfl, rfl,
    rfl, rfl, rfl, rfl, zones, rfl, rfl, rfl, rfl, rfl, rfl, rfl, rfl, rfl, rfl⟩

end Sys2Proof.Machine

/-! ## Line sensors and the node table (O27, O15, O39, O28, O13, O26, O20) -/

namespace Sys2Proof.Machine

/-! ### READ NODE (O27) -/

/-- R182: a phase set as a number. -/
theorem phaseSetByte_eq (s : PhaseSet) :
    phaseSetByte s = natByte (s.a.toNat + 2 * s.b.toNat + 4 * s.c.toNat) := by
  have small : s.a.toNat + 2 * s.b.toNat + 4 * s.c.toNat < 256 := by
    have := s.a.toNat_le; have := s.b.toNat_le; have := s.c.toNat_le
    omega
  apply BitVec.eq_of_toNat_eq
  rw [phaseSetByte_toNat, natByte_toNat small]

theorem Device.readNode_badIndex (p : Device) {node : Byte} (h : 64 ≤ node.toNat) :
    p.readNode node = p.refuse .badIndex := by
  simp [Device.readNode, indexParam_none h]

theorem Device.readNode_answer (p : Device) (n : NodeIx) :
    p.readNode (natByte n.val) = (p, [ResultCode.ok.byte] ++ (p.nodes.get n).bytes) := by
  simp [Device.readNode]

/-- Settles O27: an index that names a record reads its twelve bytes. -/
theorem readNodeReturnsRecord : Obligations.ReadNodeReturnsRecord := by
  intro s
  refine ⟨fun node h => State.next_answered (s.device.readNode_badIndex h),
    fun n => ⟨?_, rfl, fun lawful unbound => ?_⟩⟩
  · have answer := s.device.readNode_answer n
    rw [Node.bytes, phaseSetByte_eq] at answer
    exact State.next_answered answer
  · rw [lawful.1 n unbound]
    rfl

/-! ### Link and stranger commands (O15) -/

theorem rateParam_none {b : Byte} (h : 5 < b.toNat) : rateParam b = none := by
  unfold rateParam
  split
  case h_7 => rfl
  all_goals omega

section
variable (p : Device)

theorem Device.setLinkRate_code (r : LinkRate) :
    p.setLinkRate r.code = (p.withLink fun l => { l.toHunt with rate := r, inChar := false }).accept .ok := by
  simp [Device.setLinkRate]

theorem Device.setLinkRate_badValue {b : Byte} (h : 5 < b.toNat) : p.setLinkRate b = p.refuse .badValue := by
  simp [Device.setLinkRate, rateParam_none h]

theorem Device.setFeederId_accepted {b : Byte} (h : b.toNat ≤ 62) :
    p.setFeederId b = (p.withLink fun l => { l with feederId := b.toNat, amnesia := false }).accept .ok :=
  if_neg (by simp only [Config.amnesiaId]; omega)

theorem Device.setFeederId_badValue {b : Byte} (h : 63 ≤ b.toNat) : p.setFeederId b = p.refuse .badValue :=
  if_pos h

theorem Device.clearStranger_badIndex {b : Byte} (h : 3 ≤ b.toNat) : p.clearStranger b = p.refuse .badIndex := by
  simp [Device.clearStranger, indexParam_none h]

theorem Device.clearStranger_accepted (k : Fin 3) :
    p.clearStranger (natByte k.val) =
      Device.accept { p with strangers := p.strangers.set k none
                             overwrites := if k = 2 then 0 else p.overwrites } .ok := by
  simp [Device.clearStranger]

end

/-- Settles O15: each command by its parameter, and the two reads byte by byte. -/
theorem linkAndStrangerCommandsAnswer : Obligations.LinkAndStrangerCommandsAnswer := by
  refine ⟨fun s => ⟨fun r => ?_, fun b h => State.next_answered (s.device.setLinkRate_badValue h), fun _ _ => rfl,
      fun b h => State.next_answered (s.device.setFeederId_accepted h),
      fun b h => State.next_answered (s.device.setFeederId_badValue h),
      fun b h => State.next_answered (s.device.clearStranger_badIndex h),
      fun k => State.next_answered (s.device.clearStranger_accepted k)⟩, fun s => ⟨?_, ?_⟩⟩
  · have accepted := State.next_answered (s := s) (s.device.setLinkRate_code r)
    cases r <;> exact accepted
  · rfl
  · rfl

/-! ### A close and the records (O39) -/

section
variable {p : Device} {c : Close} {i : SecIx}

/-- R44: the work on a record in ARMED or SETTLING. -/
theorem Device.recordWork_watched (h : (p.sections.get i).state = .armed ∨ (p.sections.get i).state = .settling) :
    p.recordWork c i = p.parkOrEvaluate c i := by
  rcases h with h | h <;> simp only [Device.recordWork, h]

theorem Device.recordWork_suspect (h : (p.sections.get i).state = .suspect) : p.recordWork c i = p.evaluate c i := by
  simp only [Device.recordWork, h]

theorem Device.recordWork_blind (h : (p.sections.get i).state = .blind) : p.recordWork c i = p.recover i := by
  simp only [Device.recordWork, h]

theorem reportOf_some {reports : List StoredReport} {n : NodeIx} {rep : StoredReport}
    (h : reportOf reports n = some rep) : rep ∈ reports ∧ rep.node = n :=
  ⟨List.mem_of_find?_eq_some h, by simpa using List.find?_some h⟩

theorem reportOf_none_iff (reports : List StoredReport) (n : NodeIx) :
    reportOf reports n = none ↔ ∀ rep ∈ reports, rep.node ≠ n := by
  simp [reportOf]

/-- R90: a node without a good report makes a record unfit for evaluation. -/
theorem not_evaluable {reports : List StoredReport} {r : SectionRec}
    (h : ∃ n ∈ r.nodes, ∀ rep ∈ reports, rep.node = n → rep.fault = true) : ¬ evaluable reports r = true := by
  obtain ⟨n, named, faulty⟩ := h
  intro all
  have fit := List.all_eq_true.mp all n named
  split at fit
  · rename_i rep found
    obtain ⟨arrived, node⟩ := reportOf_some found
    simp [faulty rep arrived node] at fit
  · cases fit

/-- R90: the record is held. -/
theorem Device.evaluate_held
    (h : ∃ n ∈ (p.sections.get i).nodes, ∀ rep ∈ c.reports, rep.node = n → rep.fault = true) : p.evaluate c i = p :=
  if_neg (not_evaluable h)

end

/-- Settles O39: the state of the record names the work, and energization and health decide within it. -/
theorem closeMovesOrHoldsRecord : Obligations.CloseMovesOrHoldsRecord := by
  intro p c i
  dsimp only
  simp only [← Device.namesBadNode_iff]
  refine ⟨fun watched dead => ?_, fun watched powered bad => ?_, fun blind powered good => ?_, fun blind stuck => ?_,
    fun taken lacking => ?_⟩
  · rw [Device.recordWork_watched watched]
    exact if_neg dead
  · rw [Device.recordWork_watched watched]
    exact (if_pos powered).trans (if_pos bad)
  · rw [Device.recordWork_blind blind]
    exact if_pos ⟨powered, eq_false_of_ne_true good⟩
  · rw [Device.recordWork_blind blind]
    exact if_neg fun ⟨powered, good⟩ => stuck.elim (fun dead => dead powered) fun bad => by simp [good] at bad
  · have held := Device.evaluate_held lacking
    rcases taken with suspect | ⟨watched, powered, good⟩
    · rw [Device.recordWork_suspect suspect, held]
    · rw [Device.recordWork_watched watched]
      exact ((if_pos powered).trans (if_neg good)).trans held

/-! ### A close and the nodes (O28) -/

/-- R41: a stored report is found by its node. -/
theorem reportOf_eq_some {reports : List StoredReport} (h : (reports.map StoredReport.node).Nodup) {rep : StoredReport}
    (arrived : rep ∈ reports) : reportOf reports rep.node = some rep := by
  cases found : reportOf reports rep.node with
  | none => exact absurd rfl ((reportOf_none_iff _ _).mp found rep arrived)
  | some other =>
    obtain ⟨other_arrived, node⟩ := reportOf_some found
    rw [List.inj_on_of_nodup_map h other_arrived arrived node]

section
variable {c : Close} {limit : Nat} {n : NodeIx} {r : Node} (hb : r.bound = true)
include hb

/-- R41: a bound node that reported. -/
theorem Node.afterClose_reported {rep : StoredReport} (h : reportOf c.reports n = some rep) :
    r.afterClose c limit n =
      { r with health := if rep.fault then .faulty else .live, miss := 0, lastHeard := some c.epoch } := by
  simp only [Node.afterClose, hb, if_true, h]

/-- R42: a bound node that was expected and did not report. -/
theorem Node.afterClose_missed (h : reportOf c.reports n = none) (he : n ∈ c.expected) :
    r.afterClose c limit n =
      { r with miss := min 255 (r.miss + 1)
               health := if limit ≤ min 255 (r.miss + 1) then .stale else r.health } := by
  simp only [Node.afterClose, hb, if_true, h, he]

theorem Node.afterClose_unexpected (h : reportOf c.reports n = none) (he : n ∉ c.expected) :
    r.afterClose c limit n = r := by
  simp only [Node.afterClose, hb, if_true, h, he, if_false]

end

theorem entersBadHealth_iff (old new : Health) :
    entersBadHealth old new = true ↔ (new = .stale ∨ new = .faulty) ∧ new ≠ old := by
  simp [entersBadHealth, Health.bad_iff]

/-- R43: the Node Table's work sets NODE when a node's health becomes bad. -/
theorem Device.nodeWork_flag (c : Close) (p : Device) :
    (p.nodeWork c).alerts.flags.node = true ↔ p.alerts.flags.node = true
      ∨ ∃ n, entersBadHealth (p.nodes.get n).health
        (Node.afterClose c p.clock.settings.missLimit n (p.nodes.get n)).health = true := by
  have worsened := Table.any_iff (fun n r => entersBadHealth r.health
    ((p.nodes.mapIdx (Node.afterClose c p.clock.settings.missLimit)).get n).health) p.nodes
  simp only [Table.get_mapIdx] at worsened
  rw [← worsened]
  simp only [Device.nodeWork, Table.get_mapIdx]
  split
  · rename_i bad
    simp [bad, Device.setNodeFlag]
  · rename_i good
    simp [good]

theorem Device.SameButTrip.node_flag {p q : Device} (h : p.SameButTrip q) :
    q.alerts.flags.node = p.alerts.flags.node := by
  obtain ⟨-, -, -, -, -, -, -, -, -, -, -, ⟨node, -⟩, -⟩ := h
  exact node

/-- R43: the records' work leaves the NODE flag. -/
theorem Device.workClose_flag (p : Device) (c : Close) :
    (p.workClose c).alerts.flags.node = (p.nodeWork c).alerts.flags.node := by
  rw [Device.workClose]
  exact (Device.recordsWork_sameButTrip c _ (p.nodeWork c)).node_flag

/-- Settles O28: the Node Table's work decides, and the records' work leaves what it wrote. -/
theorem closeUpdatesNodeHealth : Obligations.CloseUpdatesNodeHealth := by
  intro p c
  dsimp only
  obtain ⟨-, -, nodes⟩ := p.workClose_kept c
  simp only [nodes, Table.get_mapIdx]
  refine ⟨fun n unbound => Node.afterClose_unbound c _ n unbound, fun n rep bound distinct arrived node => ?_,
    fun n bound silent expected => ?_, fun n bound silent unexpected => ?_, ?_⟩
  · subst node
    exact Node.afterClose_reported bound (reportOf_eq_some distinct arrived)
  · exact Node.afterClose_missed bound ((reportOf_none_iff _ _).mpr silent) expected
  · exact Node.afterClose_unexpected bound ((reportOf_none_iff _ _).mpr silent) unexpected
  · simp only [← entersBadHealth_iff]
    rw [Device.workClose_flag, Device.nodeWork_flag]

/-! ### A stranger sighting (O13) -/

theorem Device.findStranger_eq_none {p : Device} {f : Option Sighting → Bool} (h : ∀ k, f (p.strangers.get k) = false) :
    p.findStranger f = none :=
  List.find?_eq_none.mpr fun k _ => by simp [h k]

section
variable (p : Device) (a : Addr) (e : Half) (phs : PhaseSet)

/-- R49, case 1. -/
theorem Device.sight_known {k : Fin 3} (h : p.findStranger (holdsAddr a) = some k) :
    p.sight a e phs =
      { p with strangers := p.strangers.set k ((p.strangers.get k).map (Sighting.refresh e phs)) } := by
  simp only [Device.sight, h]

/-- R49, case 2. -/
theorem Device.sight_new {k : Fin 3} (h : p.findStranger (holdsAddr a) = none)
    (hk : p.findStranger Option.isNone = some k) :
    p.sight a e phs =
      Device.setStrangerFlag { p with strangers := p.strangers.set k (some ⟨a, e, phs, 1⟩) } := by
  simp only [Device.sight, h, hk]

/-- R49, case 3. -/
theorem Device.sight_full (h : p.findStranger (holdsAddr a) = none) (hf : p.findStranger Option.isNone = none) :
    p.sight a e phs =
      Device.setStrangerFlag
        { p with strangers := p.strangers.set 2 (some ⟨a, e, phs, 1⟩), overwrites := min 15 (p.overwrites + 1) } := by
  simp only [Device.sight, h, hf]

end

/-- Settles O13: no two slots hold one address, so the first that holds it is the only one. -/
theorem sightingIsPlacedByFirstCase : Obligations.SightingIsPlacedByFirstCase := by
  intro p a e phs
  refine ⟨fun k g lawful hk hg => ?_, fun unheld => ?_⟩
  · obtain ⟨-, -, distinct⟩ := lawful
    have holds : holdsAddr a (p.strangers.get k) = true := (holdsAddr_iff a _).mpr ⟨g, hk, hg⟩
    have first : p.findStranger (holdsAddr a) = some k := find?_finRange holds fun j hj => by
      refine eq_false_of_ne_true fun held => ?_
      obtain ⟨g', hj', hg'⟩ := (holdsAddr_iff a _).mp held
      exact hj.ne (distinct j k g' g hj' hk (hg'.trans hg.symm))
    rw [p.sight_known a e phs first, hk]
    rfl
  · have none_holds : p.findStranger (holdsAddr a) = none := Device.findStranger_eq_none fun k =>
      eq_false_of_ne_true fun held => by
        obtain ⟨g, hk, hg⟩ := (holdsAddr_iff a _).mp held
        exact unheld k g hk hg
    refine ⟨fun k empty lowest => ?_, fun full => ?_⟩
    · exact p.sight_new a e phs none_holds (find?_finRange (by simp [empty]) fun j hj => by
        simpa [Option.isSome_iff_ne_none] using lowest j hj)
    · exact p.sight_full a e phs none_holds (Device.findStranger_eq_none fun k => by
        simpa [Option.isSome_iff_ne_none] using full k)

/-! ### BIND NODE and UNBIND NODE (O26) -/

theorem Device.bindNode_badIndex (p : Device) {node : Byte} (addr : Addr) (phs : Byte) (h : 64 ≤ node.toNat) :
    p.bindNode node addr phs = p.refuse .badIndex := by
  simp [Device.bindNode, indexParam_none h]

theorem Device.bindNode_badValue (p : Device) (n : NodeIx) (addr : Addr) {phs : Byte}
    (h : phs.toNat = 0 ∨ 7 < phs.toNat) : p.bindNode (natByte n.val) addr phs = p.refuse .badValue := by
  simp [Device.bindNode, phaseSetParam_none h]

/-- R35, R36: BIND NODE with its parameters in range. -/
theorem Device.bindNode_coded (p : Device) (n : NodeIx) (addr : Addr) {a b c : Bool} (h : (a || b || c) = true) :
    p.bindNode (natByte n.val) addr (bits8 false false false false false c b a) =
      if (p.nodes.get n).bound then p.refuse .inUse
      else if (p.nodeOf addr).isSome then p.refuse .duplicateAddress
      else ((p.setNode n (Node.fresh addr ⟨a, b, c⟩)).dropStranger addr).accept .ok := by
  simp only [Device.bindNode, nodeParam, phaseSetParam_code, h, if_true]

theorem Device.nodeOf_isSome_iff (p : Device) (addr : Addr) :
    (p.nodeOf addr).isSome = true ↔ ∃ m, (p.nodes.get m).bound = true ∧ (p.nodes.get m).addr = addr := by
  simp [Device.nodeOf]

theorem holdsAddr_eq_any (addr : Addr) (o : Option Sighting) : holdsAddr addr o = o.any fun g => g.addr == addr := by
  cases o <;> rfl

/-- R81, R82: with no close held, the cascade delivers the COMPLETE slots that are oldest. -/
theorem Device.cascade_eq {p : Device} (h : p.held.closes = []) :
    p.cascade =
      { p with
        slots := p.slots.dropWhile Slot.complete
        held := { p.held with closes := (p.slots.takeWhile Slot.complete).map Slot.toClose } } := by
  simp [Device.cascade, Device.closeOldest, h]

/-- R37: what is left of a slot that a node leaves. -/
theorem Slot.removeNode_eq (n : NodeIx) (s : Slot) :
    s.removeNode n =
      Slot.checkComplete { s with reports := s.reports.filter fun rep => rep.node ≠ n
                                  expected := s.expected.filter fun m => m ≠ n } := by
  simp [Slot.removeNode, bne, Bool.beq_eq_decide_eq]

theorem Device.unbind_badIndex (p : Device) {node : Byte} (h : 64 ≤ node.toNat) :
    p.unbind node = p.refuse .badIndex := by
  simp [Device.unbind, indexParam_none h]

section
variable {p : Device} {n : NodeIx}

theorem Device.unbind_badState (h : (p.nodes.get n).bound = false) :
    p.unbind (natByte n.val) = p.refuse .badState := by
  simp [Device.unbind, h]

theorem Device.unbind_inUse (hb : (p.nodes.get n).bound = true) (hr : 0 < (p.nodes.get n).refs) :
    p.unbind (natByte n.val) = p.refuse .inUse := by
  simp [Device.unbind, hb, hr]

/-- R37: an accepted command. -/
theorem Device.unbind_accepted (hb : (p.nodes.get n).bound = true) (hr : (p.nodes.get n).refs = 0) :
    p.unbind (natByte n.val) = ((p.setNode n Node.unbound).removeFromSlots n).accept .ok := by
  simp [Device.unbind, hb, hr]

/-- R37, R80 to R82: the slots that a node leaves, with no close held. -/
theorem Device.removeFromSlots_eq (h : p.held.closes = []) :
    p.removeFromSlots n =
      { p with
        slots := (p.slots.map (Slot.removeNode n)).dropWhile Slot.complete
        held := { p.held with
          closes := ((p.slots.map (Slot.removeNode n)).takeWhile Slot.complete).map Slot.toClose } } :=
  Device.cascade_eq (p := { p with slots := p.slots.map (Slot.removeNode n) }) h

end

/-- Settles O26: the checks in their order; what an accepted command writes. -/
theorem bindAndUnbindNodeCheckThenAct : Obligations.BindAndUnbindNodeCheckThenAct := by
  refine ⟨fun s addr => ⟨fun node phs h => State.next_answered (s.device.bindNode_badIndex addr phs h),
    fun n phs h => State.next_answered (s.device.bindNode_badValue n addr h), fun n a b c some_phase => ?_⟩,
    fun s => ⟨fun node h => State.next_answered (s.device.finishWork.unbind_badIndex h), fun n =>
      ⟨fun free => State.next_answered (Device.unbind_badState free),
        fun bound named => State.next_answered (Device.unbind_inUse bound named), fun bound unnamed => ?_⟩⟩⟩
  · have coded := s.device.bindNode_coded n addr some_phase
    dsimp only
    simp only [← Device.nodeOf_isSome_iff, ← holdsAddr_eq_any]
    refine ⟨fun used => ?_, fun free held => ?_, fun free unheld => ?_⟩
    · exact State.next_answered (coded.trans (if_pos (by simpa using used)))
    · exact State.next_answered (coded.trans ((if_neg (by simp [free])).trans (if_pos held)))
    · exact State.next_answered (coded.trans ((if_neg (by simp [free])).trans (if_neg unheld)))
  · have accepted := Device.unbind_accepted bound unnamed
    have idle : (s.device.finishWork.setNode n Node.unbound).held.closes = [] := (s.device.finishWork_kept).2.2
    rw [Device.removeFromSlots_eq idle, funext (Slot.removeNode_eq n)] at accepted
    exact State.next_answered accepted

/-! ### A tick (O20) -/

theorem SecState.expects_iff (st : SecState) :
    st.expects = true ↔ st = .settling ∨ st = .armed ∨ st = .suspect ∨ st = .blind := by
  cases st <;> simp [SecState.expects]

/-- R40: the expected set. -/
theorem Device.mem_expectedSet (p : Device) (n : NodeIx) :
    n ∈ p.expectedSet ↔ (p.nodes.get n).bound = true
      ∧ ∃ i, n ∈ (p.sections.get i).nodes ∧ (p.sections.get i).state.expects = true := by
  simp [Device.expectedSet, Device.expects, Table.any_iff, and_comm]

/-- R78, R80: a new slot, whose arrived set is empty, is COMPLETE when it expects no node. -/
theorem Device.newSlot_eq (p : Device) (d : Moment) :
    p.newSlot d = { epoch := p.clock.epoch, deadline := d, expected := p.expectedSet,
                    complete := p.expectedSet.isEmpty, reports := [] } := by
  cases h : p.expectedSet <;> simp [Device.newSlot, Slot.checkComplete, Slot.full, Slot.arrived, h]

/-- R78: a slot that opens, behind others or expecting some node, stays open. -/
theorem Device.openSlot_behind {p : Device} (d : Moment) (head : oldestGathers p.slots)
    (h : p.slots ≠ [] ∨ p.expectedSet ≠ []) {complete : Bool} (hc : p.expectedSet.isEmpty = complete) :
    p.openSlot d = { p with slots := p.slots ++
      [{ epoch := p.clock.epoch, deadline := d, expected := p.expectedSet, complete := complete, reports := [] }] } := by
  rw [← hc, ← Device.newSlot_eq]
  exact (p.openSlot_slots d head).2 (h.imp_right fun expecting => by simpa [Device.newSlot_eq] using expecting)

/-- R78, R81: a slot that opens alone and expects no node closes at once, in the room made for its close. -/
theorem Device.openSlot_alone {p : Device} (d : Moment) (hs : p.slots = []) (he : p.expectedSet = []) :
    p.openSlot d = { p.makeRoom with
      held := { p.makeRoom.held with closes := p.makeRoom.held.closes ++ [⟨p.clock.epoch, [], []⟩] } } := by
  have slots : p.makeRoom.slots = [] := (p.makeRoom_kept).2.1.trans hs
  simp [Device.openSlot, Device.newSlot_eq, Device.cascade, Device.closeOldest, Slot.toClose, hs, he, slots]

theorem Device.withHeld_withHeld (p : Device) (v w : HeldWork) : (p.withHeld v).withHeld w = p.withHeld w := rfl

/-- R83: four closes held, the first of them is worked. -/
theorem Device.makeRoom_full {p : Device} {c : Close} {rest : List Close} (hc : p.held.closes = c :: rest)
    (hr : p.held.reach = none) (four : rest.length = 3) :
    p.makeRoom = (p.workClose c).withHeld ⟨rest, none⟩ := by
  simp [Device.makeRoom, Device.finishClose, Device.withHeld, hc, hr, four, Config.slotCount]

/-- R83: with at most three closes held there is room. -/
theorem Device.makeRoom_of_room {p : Device} (h : p.held.closes.length < 4) : p.makeRoom = p := by
  unfold Device.makeRoom
  split
  · exact if_neg (Nat.not_le.mpr h)
  · rfl

section
variable {complete kept : List Slot} (hc : ∀ y ∈ complete, y.complete = true) (hk : oldestGathers kept)
include hc hk

/-- R82: the slots that a cascade closes. -/
theorem takeWhile_complete_append : (complete ++ kept).takeWhile Slot.complete = complete := by
  rw [List.takeWhile_append_of_pos hc]
  cases kept with
  | nil => simp
  | cons y _ => simp [hk y rfl]

/-- R82: the slots that a cascade leaves open. -/
theorem dropWhile_complete_append : (complete ++ kept).dropWhile Slot.complete = kept := by
  rw [List.dropWhile_append_of_pos hc]
  cases kept with
  | nil => rfl
  | cons y _ => simp [hk y rfl]

/-- R78, R82: the oldest slot closes by force, and the COMPLETE slots then oldest with it. -/
theorem Device.closeOldest_one {p : Device} {oldest : Slot} (hs : p.slots = oldest :: (complete ++ kept))
    (hh : p.held.closes = []) :
    p.closeOldest 1 = { p with
      slots := kept
      held := { p.held with closes := (oldest :: complete).map Slot.toClose } } := by
  simp [Device.closeOldest, hs, hh, takeWhile_complete_append hc hk, dropWhile_complete_append hc hk]

end

/-- R75, R78: the part as a tick has raised its epoch number, the slots `l` open and the work `w` in hand. -/
def Device.ticking (p : Device) (l : List Slot) (w : HeldWork) : Device :=
  { p with clock := { p.clock with epoch := p.clock.epoch + 1#16 }, slots := l, held := w }

section
variable {p : Device} (hh : p.held = HeldWork.empty)
include hh

/-- R75, R78: a tick, no work being in hand. -/
theorem Device.tick_of_idle : p.tick = (p.ticking p.slots HeldWork.empty).takeTick := by
  have idle : p.finishWork = p := Device.finishWork_of_idle (by rw [hh]; rfl)
  rw [Device.tick, idle, ← hh]
  rfl

/-- R78: a tick with a slot FREE. -/
theorem Device.tick_of_room (h : p.slots.length < 4) :
    p.tick = (p.ticking p.slots HeldWork.empty).openSlot (p.now + ms p.clock.settings.window) := by
  rw [Device.tick_of_idle hh, Device.takeTick]
  exact congrArg (fun q : Device => q.openSlot _) (if_neg (Nat.not_le.mpr h))

/-- R78: a tick with no slot FREE. -/
theorem Device.tick_of_full (h : p.slots.length = 4) {oldest : Slot} {complete kept : List Slot}
    (hs : p.slots = oldest :: (complete ++ kept)) (hc : ∀ y ∈ complete, y.complete = true) (hk : oldestGathers kept) :
    p.tick = (p.ticking kept ⟨(oldest :: complete).map Slot.toClose, none⟩).openSlot
      (p.now + ms p.clock.settings.window) := by
  have closed := Device.closeOldest_one (p := p.ticking p.slots HeldWork.empty) hc hk hs rfl
  rw [Device.tick_of_idle hh, Device.takeTick]
  exact congrArg (fun q : Device => q.openSlot _) ((if_pos h.ge).trans closed)

end

section
variable {p : Device} {l : List Slot} {w : HeldWork} {d : Moment}

/-- R78: a tick whose new slot stays open behind the slots `l`. -/
theorem Device.tick_opens (ht : p.tick = (p.ticking l w).openSlot d) (head : oldestGathers l) :
    (p.expectedSet ≠ [] → p.tick = p.ticking (l ++ [⟨p.clock.epoch + 1#16, d, p.expectedSet, false, []⟩]) w)
      ∧ (p.expectedSet = [] → l ≠ [] →
        p.tick = p.ticking (l ++ [⟨p.clock.epoch + 1#16, d, p.expectedSet, true, []⟩]) w) :=
  ⟨fun expecting => ht.trans (Device.openSlot_behind (p := p.ticking l w) d head (.inr expecting)
      (List.isEmpty_eq_false_iff.mpr expecting)),
    fun none_expected behind => ht.trans (Device.openSlot_behind (p := p.ticking l w) d head (.inl behind)
      (List.isEmpty_iff.mpr none_expected))⟩

/-- R78, R81: a tick whose new slot stands alone and expects no node. -/
theorem Device.tick_closes (ht : p.tick = (p.ticking l w).openSlot d) (alone : l = []) (he : p.expectedSet = []) :
    p.tick = (p.ticking l w).makeRoom.withHeld
      { (p.ticking l w).makeRoom.held with
        closes := (p.ticking l w).makeRoom.held.closes ++ [⟨p.clock.epoch + 1#16, [], []⟩] } :=
  ht.trans (Device.openSlot_alone (p := p.ticking l w) d alone he)

/-- R83: four closes held at the end of a tick's own; the first of them is worked. -/
theorem Device.makeRoom_ticking {c : Close} {rest : List Close} (four : rest.length = 3) :
    (p.ticking l ⟨c :: rest, none⟩).makeRoom = ((p.ticking l p.held).workClose c).withHeld ⟨rest, none⟩ := by
  have worked := Device.workClose_withHeld (p.ticking l p.held) ⟨c :: rest, none⟩ c
  have same : (p.ticking l p.held).withHeld ⟨c :: rest, none⟩ = p.ticking l ⟨c :: rest, none⟩ := rfl
  rw [same] at worked
  rw [Device.makeRoom_full rfl rfl four, worked, Device.withHeld_withHeld]

end

/-- Settles O20: with a slot FREE the new slot joins those open; with none, those that remain once the oldest has
closed. A new slot that expects no node and stands alone closes. -/
theorem tickOpensSlotForWatchedNodes : Obligations.TickOpensSlotForWatchedNodes := by
  refine ⟨fun p => ?_, fun p idle lawful => ?_, fun p n => ?_⟩
  · rw [Device.tick, Device.tick, Device.finishWork_twice]
  · obtain ⟨-, head, held⟩ := p.slotsLawful_iff.mp lawful
    have rest : p.held = HeldWork.empty := by
      rw [← Device.finishWork_held held, Device.finishWork_of_idle (by simp [HeldWork.inHand, idle])]
    refine ⟨fun room => ?_, fun none_open none_expected => ?_, fun oldest complete kept full stand hc hk => ?_⟩
    · exact Device.tick_opens (Device.tick_of_room rest room) head
    · have ticked := Device.tick_of_room rest (by simp [none_open])
      have closed := Device.tick_closes ticked none_open none_expected
      rw [Device.makeRoom_of_room (p := p.ticking p.slots HeldWork.empty) (Nat.zero_lt_succ 3)] at closed
      exact closed
    · have ticked := Device.tick_of_full rest full stand hc hk
      refine ⟨Device.tick_opens ticked hk, fun none_expected none_kept => ?_⟩
      subst none_kept
      have three : (complete.map Slot.toClose).length = 3 := by simpa [stand] using full
      have closed := Device.tick_closes ticked rfl none_expected
      rw [List.map_cons, Device.makeRoom_ticking three, Device.withHeld_withHeld] at closed
      exact closed
  · simp only [Device.mem_expectedSet, SecState.expects_iff]

end Sys2Proof.Machine

/-! ## Identity and amnesia (O6, O59) -/

namespace Sys2Proof.Machine

/-! ### The Link Receiver through every row that is not its own -/

theorem Device.KeptByWork.link {p q : Device} (h : p.KeptByWork q) : q.link = p.link := by
  obtain ⟨link, -⟩ := h
  exact link

theorem Device.SameButTrip.link {p q : Device} (h : p.SameButTrip q) : q.link = p.link := h.kept.link

@[simp] theorem Device.finishWork_link (p : Device) : p.finishWork.link = p.link := (p.finishWork_kept).1.link

@[simp] theorem Device.passTo_link (p : Device) (t : Moment) : (p.passTo t).link = p.link := (p.passTo_kept t).link

@[simp] theorem Device.workPiece_link (p : Device) : p.workPiece.link = p.link := (p.workPiece_kept).link

@[simp] theorem Device.tick_link (p : Device) : p.tick.link = p.link := (p.tick_kept).link

@[simp] theorem Device.closeOldest_link (p : Device) (k : Nat) : (p.closeOldest k).link = p.link := rfl

section
variable (p : Device)

theorem Device.syncPulse_link : p.syncPulse.link = p.link := by
  unfold Device.syncPulse Device.pulseLocked Device.pulseHoldover
  repeat' split
  all_goals simp

@[simp] theorem Device.checkSyncLost_link : p.checkSyncLost.link = p.link := by
  unfold Device.checkSyncLost
  split <;> rfl

theorem Device.slotDeadline_link (e : Half) : (p.slotDeadline e).link = p.link := by
  unfold Device.slotDeadline
  dsimp only
  split
  · simp [Device.closeThrough]
  · rfl

theorem Device.tripTimeout_link (z : ZoneIx) : (p.tripTimeout z).link = p.link := by
  unfold Device.tripTimeout
  split
  · exact (Device.timeout_sameButTrip _ z).link.trans (p.passTo_link _)
  · rfl

theorem Device.debounceExpiry_link (z : ZoneIx) : (p.debounceExpiry z).link = p.link := by
  unfold Device.debounceExpiry
  split
  · exact (Device.becomeStable_sameButTrip _ z _).link.trans (p.passTo_link _)
  · rfl

theorem Device.timerUpTo_link (z : ZoneIx) (t : Moment) : (p.timerUpTo z t).link = p.link := by
  unfold Device.timerUpTo
  repeat' split
  · exact p.tripTimeout_link z
  · rfl
  · rfl

theorem Device.intervalUpTo_link (z : ZoneIx) (t : Moment) : (p.intervalUpTo z t).link = p.link := by
  unfold Device.intervalUpTo
  repeat' split
  · exact p.debounceExpiry_link z
  · rfl
  · rfl

theorem Device.brkLevelChange_link (t : Moment) (z : ZoneIx) (high : Bool) :
    (p.brkLevelChange t z high).link = p.link := by
  unfold Device.brkLevelChange
  split
  · exact p.passTo_link t
  · rw [(Device.changeLevel_sameButTrip _ z high).link, Device.passTo_link, Device.intervalUpTo_link,
      Device.timerUpTo_link]

/-! The port (R168 to R179) -/

theorem Device.transactionStart_link : p.transactionStart.link = p.link := by
  unfold Device.transactionStart
  split <;> rfl

theorem Device.accessByte_link (b : Byte) : (p.accessByte b).link = p.link := by
  unfold Device.accessByte
  split
  · dsimp only
    split <;> rfl
  · rfl

theorem Device.codeByte_link (b : Byte) : (p.codeByte b).link = p.link := by
  unfold Device.codeByte
  split <;> rfl

theorem Device.parameterByte_link (b : Byte) : (p.parameterByte b).link = p.link := by
  unfold Device.parameterByte
  split <;> rfl

theorem Device.overrunByte_link (b : Byte) : (p.overrunByte b).link = p.link := by
  unfold Device.overrunByte
  split <;> rfl

theorem Device.resultByteRead_link : p.resultByteRead.link = p.link := by
  unfold Device.resultByteRead
  split <;> rfl

theorem Device.statusByteRead_link : p.statusByteRead.link = p.link := by
  unfold Device.statusByteRead
  split <;> rfl

theorem Device.transactionEnd_link : p.transactionEnd.link = p.link := by
  unfold Device.transactionEnd
  repeat' split
  all_goals rfl

/-! Host commands -/

theorem Device.setEpochClock_link (src per gr : Byte) (lim win : Half) (miss : Byte) :
    (p.setEpochClock src per gr lim win miss).1.link = p.link := by
  unfold Device.setEpochClock
  split <;> rfl

theorem Device.loadProfile_link (index : Byte) (sent : Profile) : (p.loadProfile index sent).1.link = p.link := by
  unfold Device.loadProfile
  split <;> rfl

theorem Device.clearAlerts_link (mask : Byte) : (p.clearAlerts mask).1.link = p.link := by
  unfold Device.clearAlerts
  split <;> rfl

theorem Device.setAlertEnable_link (mask : Byte) : (p.setAlertEnable mask).1.link = p.link := by
  unfold Device.setAlertEnable
  split <;> rfl

theorem Device.readProfile_link (index : Byte) : (p.readProfile index).1.link = p.link := by
  unfold Device.readProfile
  split <;> rfl

theorem Device.readNode_link (node : Byte) : (p.readNode node).1.link = p.link := by
  unfold Device.readNode
  split <;> rfl

theorem Device.readSection_link (sec : Byte) : (p.readSection sec).1.link = p.link := by
  unfold Device.readSection
  repeat' split
  all_goals rfl

theorem Device.readZone_link (zone : Byte) : (p.readZone zone).1.link = p.link := by
  unfold Device.readZone
  split <;> rfl

theorem Device.scanSections_link (start field comparison key : Byte) :
    (p.scanSections start field comparison key).1.link = p.link := by
  unfold Device.scanSections
  repeat' split
  all_goals rfl

theorem Device.restartEvaluation_link : p.restartEvaluation.1.link = p.link := by
  unfold Device.restartEvaluation Device.restart
  split <;> exact p.finishWork_link

theorem Device.bindNode_link (node : Byte) (addr : Addr) (phs : Byte) : (p.bindNode node addr phs).1.link = p.link := by
  rcases p.bindNode_cases node addr phs with e | ⟨n, s, -, -, -, e⟩
  · rw [e]
  · rw [e]; rfl

theorem Device.unbindNode_link (node : Byte) : (p.unbindNode node).1.link = p.link := by
  unfold Device.unbindNode
  rcases p.finishWork.unbind_cases node with e | ⟨n, -, e⟩
  · rw [e]; exact p.finishWork_link
  · rw [e]; exact p.finishWork_link

theorem Device.clearStranger_link (slot : Byte) : (p.clearStranger slot).1.link = p.link := by
  unfold Device.clearStranger
  split <;> rfl

theorem Device.createSection_link (sec up zone phs prof : Byte) :
    (p.createSection sec up zone phs prof).1.link = p.link := by
  rcases p.createSection_cases sec up zone phs prof with e | ⟨i, u, z, s, pr, -, -, e⟩
  · rw [e]
  · rw [e]; rfl

theorem Device.editSection_link (sec n1 n2 n3 n4 : Byte) (ta tb tc : Half) :
    (p.editSection sec n1 n2 n3 n4 ta tb tc).1.link = p.link := by
  rcases p.editSection_cases sec n1 n2 n3 n4 ta tb tc with e | ⟨i, new, -, -, -, e⟩
  · rw [e]
  · rw [e]; rfl

theorem Device.commitSection_link (sec : Byte) : (p.commitSection sec).1.link = p.link := by
  rcases p.commitSection_cases sec with e | ⟨i, -, e⟩
  · rw [e]
  · rw [e]; exact (p.place_sameButTrip i _).link

theorem Device.recallSection_link (sec : Byte) : (p.recallSection sec).1.link = p.link := by
  rcases p.recallSection_cases sec with e | ⟨i, -, e⟩
  · rw [e]
  · rw [e]; rfl

theorem Device.tuneSection_link (sec profile : Byte) (ta tb tc : Half) :
    (p.tuneSection sec profile ta tb tc).1.link = p.link := by
  rcases p.tuneSection_cases sec profile ta tb tc with e | ⟨i, pr, -, e⟩
  · rw [e]
  · rw [e]; rfl

theorem Device.acknowledgeSection_link (sec : Byte) : (p.acknowledgeSection sec).1.link = p.link := by
  rcases p.acknowledgeSection_cases sec with e | ⟨i, -, -, e⟩
  · rw [e]
  · rw [e]; exact (p.place_sameButTrip i _).link

theorem Device.retireSection_link (sec : Byte) : (p.retireSection sec).1.link = p.link := by
  rcases p.retireSection_cases sec with e | ⟨i, -, -, e⟩
  · rw [e]
  · rw [e]; rfl

theorem Device.setZoneCommand_link (zone hz te ee : Byte) (tmo : Half) (db pol : Byte) :
    (p.setZoneCommand zone hz te ee tmo db pol).1.link = p.link := by
  rcases p.setZoneCommand_cases zone hz te ee tmo db pol with e | ⟨z, c, e⟩
  · rw [e]
  · rw [e]; exact (p.applyZone_sameButTrip z c).link

theorem Device.tripZone_link (zone : Byte) : (p.tripZone zone).1.link = p.link := by
  rcases p.tripZone_cases zone with e | ⟨z, ⟨-, -, e⟩ | ⟨-, -, e⟩ | ⟨-, e⟩⟩
  · rw [e]
  · rw [e]; rfl
  · rw [e]; rfl
  · rw [e]; rfl

theorem Device.releaseTrip_link (zone : Byte) : (p.releaseTrip zone).1.link = p.link := by
  rcases p.releaseTrip_cases zone with e | ⟨z, -, e⟩
  · rw [e]
  · rw [e]; rfl

theorem Device.senseOutcome_link : p.senseOutcome.1.link = p.link := by
  unfold Device.senseOutcome
  split <;> rfl

theorem Device.holdPermit_link (zone hold : Byte) : (p.holdPermit zone hold).1.link = p.link := by
  unfold Device.holdPermit
  repeat' split
  all_goals rfl

end

/-- The rows of the Link Receiver's own, and the resets. -/
def movesLink : Instr → Prop
  | .powerOnReset _ => True
  | .rstNReset _ => True
  | .characterReceived .. => True
  | .startBit _ => True
  | .gapTimerExpiry => True
  | .setLinkRate _ => True
  | .setJoinFilter .. => True
  | .setFeederId _ => True
  | .readLinkCounters => True
  | _ => False

/-- Every other row leaves the Link Receiver as it stands. -/
theorem exec_link {s t : State} {c : Instr} (h : exec c s = .next t) (hc : ¬ movesLink c) :
    t.device.link = s.device.link := by
  have answered : ∀ a : Answer, a.1.link = s.device.link → (s.answered a.1 a.2).device.link = s.device.link :=
    fun a k => by rw [State.answered_link, k]
  cases c with
  | powerOnReset | rstNReset | characterReceived | startBit | gapTimerExpiry | setLinkRate | setJoinFilter
  | setFeederId | readLinkCounters => exact absurd trivial hc
  | syncPulse m => cases h; exact (Device.syncPulse_link _).trans (s.device.passTo_link m)
  | syncTimerExpiry => cases h; dsimp only; split <;> simp [Device.enterHoldover]
  | holdoverTick => cases h; dsimp only; split <;> simp [Device.holdoverTick]
  | freeTick => cases h; dsimp only; split <;> simp [Device.freeTick]
  | slotDeadline e => cases h; exact s.device.slotDeadline_link e
  | brkLevelChange m z high =>
    cases h; dsimp only; split
    · exact s.device.brkLevelChange_link m _ high
    · rfl
  | debounceExpiry z =>
    cases h; dsimp only; split
    · exact s.device.debounceExpiry_link _
    · rfl
  | tripTimeout z =>
    cases h; dsimp only; split
    · exact s.device.tripTimeout_link _
    · rfl
  | transactionStart m => cases h; exact (Device.transactionStart_link _).trans (s.device.passTo_link m)
  | accessByte b => cases h; exact s.device.accessByte_link b
  | codeByte b => cases h; exact s.device.codeByte_link b
  | parameterByte b => cases h; exact s.device.parameterByte_link b
  | overrunByte b => cases h; exact s.device.overrunByte_link b
  | resultByteRead => cases h; exact s.device.resultByteRead_link
  | statusByteRead => cases h; exact s.device.statusByteRead_link
  | transactionEnd => cases h; exact s.device.transactionEnd_link
  | setEpochClock => cases h; exact answered _ (s.device.setEpochClock_link _ _ _ _ _ _)
  | loadProfile => cases h; exact answered _ (s.device.loadProfile_link _ _)
  | clearAlerts => cases h; exact answered _ (s.device.clearAlerts_link _)
  | setAlertEnable => cases h; exact answered _ (s.device.setAlertEnable_link _)
  | readEpochClock | readStrangers | readDevice => cases h; exact answered (s.device, _) rfl
  | setEpochNumber n => cases h; exact answered (s.device.setEpochNumber n) s.device.finishWork_link
  | restartEvaluation => cases h; exact answered _ s.device.restartEvaluation_link
  | readProfile => cases h; exact answered _ (s.device.readProfile_link _)
  | readNode => cases h; exact answered _ (s.device.readNode_link _)
  | readSection => cases h; exact answered _ (s.device.readSection_link _)
  | readZone => cases h; exact answered _ (s.device.readZone_link _)
  | scanSections => cases h; exact answered _ (s.device.scanSections_link _ _ _ _)
  | bindNode => cases h; exact answered _ (s.device.bindNode_link _ _ _)
  | unbindNode => cases h; exact answered _ (s.device.unbindNode_link _)
  | clearStranger => cases h; exact answered _ (s.device.clearStranger_link _)
  | createSection => cases h; exact answered _ (s.device.createSection_link _ _ _ _ _)
  | editSection => cases h; exact answered _ (s.device.editSection_link _ _ _ _ _ _ _ _)
  | commitSection => cases h; exact answered _ (s.device.commitSection_link _)
  | recallSection => cases h; exact answered _ (s.device.recallSection_link _)
  | tuneSection => cases h; exact answered _ (s.device.tuneSection_link _ _ _ _ _)
  | acknowledgeSection => cases h; exact answered _ (s.device.acknowledgeSection_link _)
  | retireSection => cases h; exact answered _ (s.device.retireSection_link _)
  | setZone => cases h; exact answered _ (s.device.setZoneCommand_link _ _ _ _ _ _ _)
  | tripZone => cases h; exact answered _ (s.device.tripZone_link _)
  | releaseTrip => cases h; exact answered _ (s.device.releaseTrip_link _)
  | senseOutcome => cases h; exact answered _ s.device.senseOutcome_link
  | holdPermit => cases h; exact answered _ (s.device.holdPermit_link _ _)

/-- The part's own work on an empty queue leaves it too. -/
theorem State.idle_link (s : State) : s.idle.device.link = s.device.link := by
  unfold State.idle State.choose
  repeat' split
  · rfl
  · exact s.device.workPiece_link
  · rfl
  · rfl
  · exact s.device.chosen.workPiece_link

/-! ### The identity (O6) -/

/-- R65: the feeder ID and the amnesia condition stand. -/
structure LinkReceiver.SameIdentity (l m : LinkReceiver) : Prop where
  feederId : m.feederId = l.feederId
  amnesia : m.amnesia = l.amnesia

theorem LinkReceiver.SameIdentity.of_eq {l m : LinkReceiver} (h : m = l) : l.SameIdentity m := h ▸ ⟨rfl, rfl⟩

theorem LinkReceiver.SameIdentity.trans {l m n : LinkReceiver} (h : l.SameIdentity m) (k : m.SameIdentity n) :
    l.SameIdentity n :=
  ⟨k.feederId.trans h.feederId, k.amnesia.trans h.amnesia⟩

section
variable (p : Device)

theorem Device.sight_link (a : Addr) (e : Half) (s : PhaseSet) : (p.sight a e s).link = p.link := by
  unfold Device.sight
  dsimp only
  repeat' split
  all_goals rfl

/-- R79: a report moves no more of the Link Receiver than its counters. -/
theorem Device.storeReport_sameIdentity (e : Half) (rep : StoredReport) :
    p.link.SameIdentity (p.storeReport e rep).link := by
  refine (LinkReceiver.SameIdentity.of_eq p.finishWork_link).trans ?_
  unfold Device.storeReport Device.takeReport
  repeat' split
  all_goals exact ⟨rfl, rfl⟩

theorem Device.checkFrame_sameIdentity (len : Byte) (body : List Byte) (crc : Half) :
    p.link.SameIdentity (p.checkFrame len body crc).link := by
  unfold Device.checkFrame
  repeat' split
  case h_1.isTrue => exact .of_eq (p.sight_link _ _ _)
  case h_2.isFalse => exact p.storeReport_sameIdentity _ _
  all_goals exact ⟨rfl, rfl⟩

/-- R52, R54 to R62: a character. -/
theorem Device.characterReceived_sameIdentity (stop : Bool) (b : Byte) :
    p.link.SameIdentity (p.characterReceived stop b).link := by
  have received : ∀ q : Device, q.link.SameIdentity (q.rxByte b).link := fun q => by
    unfold Device.rxByte Device.lengthByte
    repeat' split
    case h_6 =>
      refine .trans ?_ (Device.checkFrame_sameIdentity _ _ _ _)
      exact ⟨rfl, rfl⟩
    all_goals exact ⟨rfl, rfl⟩
  have failed : ∀ q : Device, q.link.SameIdentity q.framingError.link := fun q => by
    unfold Device.framingError
    split <;> exact ⟨rfl, rfl⟩
  unfold Device.characterReceived
  dsimp only
  repeat' split
  · refine .trans ?_ (received (p.withLink _))
    exact ⟨rfl, rfl⟩
  · refine .trans ?_ (failed (p.withLink _))
    exact ⟨rfl, rfl⟩
  · exact ⟨rfl, rfl⟩

theorem Device.gapExpire_sameIdentity : p.link.SameIdentity p.gapExpire.link := by
  unfold Device.gapExpire
  split <;> exact ⟨rfl, rfl⟩

/-- R52, R57: a start bit. -/
theorem Device.startBit_sameIdentity : p.link.SameIdentity p.startBit.link := by
  unfold Device.startBit
  repeat' split
  · exact p.gapExpire_sameIdentity.trans ⟨rfl, rfl⟩
  · exact ⟨rfl, rfl⟩
  · exact ⟨rfl, rfl⟩

/-- R57: the gap timer's expiry. -/
theorem Device.gapTimerExpiry_sameIdentity : p.link.SameIdentity p.gapTimerExpiry.link := by
  unfold Device.gapTimerExpiry
  split
  · exact (LinkReceiver.SameIdentity.of_eq (p.passTo_link _)).trans (Device.gapExpire_sameIdentity _)
  · exact ⟨rfl, rfl⟩

theorem Device.setLinkRate_sameIdentity (rate : Byte) : p.link.SameIdentity (p.setLinkRate rate).1.link := by
  unfold Device.setLinkRate
  split <;> exact ⟨rfl, rfl⟩

end

/-- R65: no row but SET FEEDER ID and the resets writes the identity. -/
theorem exec_sameIdentity {s t : State} {c : Instr} (h : exec c s = .next t) (hr : ¬ resetRow c)
    (hc : ∀ b, c ≠ .setFeederId b) : s.device.link.SameIdentity t.device.link := by
  have passed : ∀ m, s.device.link.SameIdentity (s.device.passTo m).link := fun m => .of_eq (s.device.passTo_link m)
  have answered : ∀ a : Answer, s.device.link.SameIdentity a.1.link →
      s.device.link.SameIdentity (s.answered a.1 a.2).device.link := fun a k => by rwa [State.answered_link]
  by_cases hw : movesLink c
  · cases c with
    | powerOnReset | rstNReset => exact absurd trivial hr
    | characterReceived m stop b => cases h; exact (passed m).trans (Device.characterReceived_sameIdentity _ stop b)
    | startBit m => cases h; exact (passed m).trans (Device.startBit_sameIdentity _)
    | gapTimerExpiry => cases h; exact s.device.gapTimerExpiry_sameIdentity
    | setLinkRate rate => cases h; exact answered _ (s.device.setLinkRate_sameIdentity rate)
    | setJoinFilter value mask => cases h; exact answered (s.device.setJoinFilter value mask) ⟨rfl, rfl⟩
    | setFeederId b => exact absurd rfl (hc b)
    | readLinkCounters => cases h; exact answered s.device.readLinkCounters ⟨rfl, rfl⟩
    | _ => exact absurd hw id
  · exact .of_eq (exec_link h hw)

/-- R65: the number of identity pins that read high. -/
theorem resetHighPins_eq (pins : ResetPins) :
    resetHighPins pins = [pins.fid.getLsbD 0, pins.fid.getLsbD 1, pins.fid.getLsbD 2, pins.fid.getLsbD 3,
      pins.fid.getLsbD 4, pins.fid.getLsbD 5, pins.fidPar].count true := by
  have range : List.range 6 = [0, 1, 2, 3, 4, 5] := rfl
  simp only [resetHighPins, range, List.count, List.countP_cons, List.countP_nil, beq_true]
  omega

/-- R65: the straps give an identity exactly when the parity is odd and the value at most 62. -/
theorem resetIdentityGood_iff (pins : ResetPins) :
    resetIdentityGood pins = true ↔ resetHighPins pins % 2 = 1 ∧ pins.fid.toNat ≤ 62 := by
  have small := pins.fid.isLt
  simp only [resetIdentityGood, Config.amnesiaId, Bool.and_eq_true, beq_iff_eq, bne_iff_ne]
  omega

/-- Settles O6: either reset leaves the identity that its pins give, and of the other rows only SET FEEDER ID
writes it. -/
theorem strapsGiveFeederIdentity : Obligations.StrapsGiveFeederIdentity := by
  refine ⟨fun pins s t c hc h => ?_, fun s t c hr hf h => ?_⟩
  · dsimp only
    rw [← resetHighPins_eq, ← resetIdentityGood_iff]
    have link : t.device.link = .afterReset pins := by rcases hc with rfl | rfl <;> cases h <;> rfl
    rw [link]
    exact ⟨fun good => by simp [LinkReceiver.afterReset, good],
      fun bad => by simp [LinkReceiver.afterReset, bad, Config.amnesiaId]⟩
  · have same := exec_sameIdentity h hr hf
    exact ⟨same.feederId, same.amnesia⟩

end Sys2Proof.Machine

/-! ## Amnesia (O59)

R66 says what amnesia keeps out; that nothing enters by the other rows rests on the cause lists, which in a part
without a watched record are empty. -/

namespace Sys2Proof.Machine

/-! ### No record watched -/

/-- R66: the record is VACANT or DRAFT. -/
def SectionRec.unwatched (r : SectionRec) : Prop := r.state = .vacant ∨ r.state = .draft

/-- R66: no record is watched, and no cause list names one. -/
structure Device.Unwatched (p : Device) : Prop where
  records : ∀ i, (p.sections.get i).unwatched
  causes : ∀ z, (p.zones.get z).causes = []

theorem SectionRec.unwatched.ne {r : SectionRec} {st : SecState} (h : r.unwatched) (hv : st ≠ .vacant)
    (hd : st ≠ .draft) : r.state ≠ st := by
  rcases h with h | h
  · rw [h]; exact hv.symm
  · rw [h]; exact hd.symm

section
variable {p q : Device}

/-- Records and cause lists that stand. -/
theorem Device.Unwatched.of_eq (h : p.Unwatched) (hs : q.sections = p.sections)
    (hz : ∀ z, (q.zones.get z).causes = (p.zones.get z).causes) : q.Unwatched :=
  ⟨fun i => by rw [hs]; exact h.records i, fun z => by rw [hz]; exact h.causes z⟩

/-- A zone written with no causes. -/
theorem Device.Unwatched.setZone (h : p.Unwatched) {z : ZoneIx} {y : Zone} (hy : y.causes = []) :
    (p.setZone z y).Unwatched := by
  refine ⟨h.records, fun w => ?_⟩
  rw [Device.setZone_zones, Table.get_set]
  split
  · exact hy
  · exact h.causes w

theorem Device.Unwatched.latchOutcome (h : p.Unwatched) (z : ZoneIx) (o : OutcomeRec) :
    (p.latchOutcome z o).Unwatched := h.setZone (h.causes z)

/-- Every record changed by a function that leaves an unwatched one unwatched. -/
theorem Device.Unwatched.mapSections (h : p.Unwatched) {f : SecIx → SectionRec → SectionRec}
    (hf : ∀ i, (f i (p.sections.get i)).unwatched) : (p.mapSections f).Unwatched :=
  ⟨fun i => by rw [Device.mapSections_sections, Table.get_mapIdx]; exact hf i, h.causes⟩

theorem Device.Unwatched.mapListed_nil (h : p.Unwatched) {l : List SecIx} (hl : l = [])
    (f : SectionRec → SectionRec) : (p.mapListed l f).Unwatched :=
  h.mapSections fun i => by rw [hl]; exact h.records i

theorem Device.Unwatched.setSection (h : p.Unwatched) (i : SecIx) {r : SectionRec} (hr : r.unwatched) :
    (p.setSection i r).Unwatched := by
  refine ⟨fun j => ?_, h.causes⟩
  rw [Device.setSection_sections, Table.get_set]
  split
  · exact hr
  · exact h.records j

/-! ### Edges, timeouts and closes find nothing to do -/

theorem SectionRec.openEdge_of_unwatched (z : ZoneIx) {r : SectionRec} (h : r.unwatched) : r.openEdge z = r := by
  rcases r.openEdge_cases z with e | ⟨-, hs⟩
  · exact e
  · rcases hs with hs | hs | hs
    all_goals exact absurd hs (h.ne (by decide) (by decide))

/-- R148: no record has failed to trip. -/
theorem Device.Unwatched.failedIn (h : p.Unwatched) (z : ZoneIx) : p.failedIn z = [] := by
  refine List.filter_eq_nil_iff.mpr fun i _ => ?_
  have unconfirmed := (h.records i).ne (st := .confirmed) nofun nofun
  simp [unconfirmed]

theorem Device.Unwatched.openEdge (h : p.Unwatched) (z : ZoneIx) : (p.openEdge z).Unwatched := by
  have moved : (p.mapSections fun _ r => r.openEdge z).Unwatched := h.mapSections fun i => by
    rw [SectionRec.openEdge_of_unwatched z (h.records i)]; exact h.records i
  unfold Device.openEdge
  dsimp only
  split
  · exact moved
  · exact ((moved.mapListed_nil (moved.causes z) _).latchOutcome z _).setZone rfl
  · exact ((moved.mapListed_nil (moved.failedIn z) _).latchOutcome z _).setZone rfl

/-- R137: no record is DORMANT. -/
theorem Device.Unwatched.closeEdge (h : p.Unwatched) (z : ZoneIx) : p.closeEdge z = p :=
  List.foldl_fixed' (fun i => if_neg fun ⟨dormant, _⟩ => (h.records i).ne (by decide) (by decide) dormant) _

theorem Device.Unwatched.afterBreaker (h : p.Unwatched) (z : ZoneIx) (wasOpen : Bool) :
    (p.afterBreaker z wasOpen).Unwatched := by
  unfold Device.afterBreaker
  repeat' split
  · exact h
  · exact h.openEdge z
  · rwa [h.closeEdge z]

theorem Device.Unwatched.becomeStable (h : p.Unwatched) (z : ZoneIx) (level : Bool) :
    (p.becomeStable z level).Unwatched := by
  refine Device.Unwatched.afterBreaker ?_ z _
  exact h.setZone (h.causes z)

/-- R146, R147: a timeout with no causes neither escalates nor fails a record. -/
theorem Device.Unwatched.timeout (h : p.Unwatched) (z : ZoneIx) : (p.timeout z).Unwatched := by
  have stays : p.timeoutEscalates z = false := by simp [Device.timeoutEscalates, h.causes z]
  unfold Device.timeout
  simp only [stays]
  exact ((h.latchOutcome z _).setZone rfl).mapListed_nil (h.causes z) _

/-- R143: no record is WITHHELD. -/
theorem Device.Unwatched.releaseWithheld (h : p.Unwatched) (z : ZoneIx) : p.releaseWithheld z = p :=
  List.foldl_fixed' (fun i => if_neg fun ⟨confirmed, _⟩ => (h.records i).ne (by decide) (by decide) confirmed) _

theorem Device.Unwatched.applyZone (h : p.Unwatched) (z : ZoneIx) (c : ZoneSettings) : (p.applyZone z c).Unwatched := by
  have edge := (h.setZone (z := z) (y := (p.zones.get z).withSettings c) (h.causes z)).afterBreaker z (p.zones.get z).isOpen
  unfold Device.applyZone
  dsimp only
  split
  · rwa [edge.releaseWithheld z]
  · exact edge

/-- R29: the work of a close reaches no record. -/
theorem Device.Unwatched.recordWork (h : p.Unwatched) (c : Close) (i : SecIx) : p.recordWork c i = p := by
  unfold Device.recordWork
  rcases h.records i with e | e <;> rw [e]

/-- R40: no node is expected. -/
theorem Device.Unwatched.expectedSet (h : p.Unwatched) : p.expectedSet = [] := by
  refine List.eq_nil_iff_forall_not_mem.mpr fun n hn => ?_
  obtain ⟨-, i, -, expecting⟩ := (p.mem_expectedSet n).mp hn
  rcases h.records i with e | e <;> simp [e, SecState.expects] at expecting

end

/-- Closes, edges and timers leave every record unwatched. -/
theorem Device.Unwatched.workLaw : WorkLaw fun p q => p.Unwatched → q.Unwatched where
  refl _ := id
  trans h k := k ∘ h
  frame same h := h.of_eq same.sections fun z => (same.zones z).causes
  nodeWork c p h := by
    obtain ⟨-, -, sections, zones, -⟩ := p.nodeWork_kept c
    exact h.of_eq sections fun z => by rw [zones]
  recordWork c p i h := by rwa [h.recordWork c i]

/-! ### No record watched and no slot open -/

/-- R66: no record is watched and no slot is open. -/
structure Device.Quiet (p : Device) : Prop where
  unwatched : p.Unwatched
  slots : p.slots = []

section
variable {p q : Device}

theorem Device.Quiet.of_eq (h : p.Quiet) (hs : q.sections = p.sections) (hz : q.zones = p.zones)
    (hl : q.slots = p.slots) : q.Quiet :=
  ⟨h.unwatched.of_eq hs fun z => by rw [hz], hl.trans h.slots⟩

theorem Device.Quiet.setSection (h : p.Quiet) (i : SecIx) {r : SectionRec} (hr : r.unwatched) :
    (p.setSection i r).Quiet := ⟨h.unwatched.setSection i hr, h.slots⟩

theorem Device.SameButTrip.quiet (k : p.SameButTrip q) (h : p.Quiet) (hu : q.Unwatched) : q.Quiet := by
  obtain ⟨-, -, ⟨slots, -⟩, -⟩ := k
  exact ⟨hu, slots.trans h.slots⟩

theorem Device.Quiet.finishWork (h : p.Quiet) : p.finishWork.Quiet := by
  obtain ⟨-, slots, -⟩ := p.finishWork_kept
  exact ⟨Device.Unwatched.workLaw.finishWork p h.unwatched, slots.trans h.slots⟩

theorem Device.workPiece_slots (p : Device) : p.workPiece.slots = p.slots := by
  unfold Device.workPiece
  split
  · rename_i c _ _
    unfold Device.closePiece
    split
    · obtain ⟨-, ⟨slots, -⟩, -⟩ := p.nodeWork_kept c
      exact slots
    · rename_i i _
      obtain ⟨-, -, ⟨slots, -⟩, -⟩ := p.recordWork_sameButTrip c i
      exact slots
  · rfl

/-- R40, R78: the slot that a tick opens expects no node, and closes at once. -/
theorem Device.Quiet.openSlot (h : p.Quiet) (d : Moment) : (p.openSlot d).Quiet := by
  have complete : (p.newSlot d).complete = true := by simp [Device.newSlot_eq, h.unwatched.expectedSet]
  obtain ⟨closed, -⟩ := p.openSlot_slots d (by simp [h.slots])
  exact ⟨Device.Unwatched.workLaw.openSlot p d h.unwatched, (closed h.slots complete).1⟩

theorem Device.Quiet.takeTick (h : p.Quiet) : p.takeTick.Quiet := by
  unfold Device.takeTick
  dsimp only
  split
  · rename_i full
    simp [h.slots, Config.slotCount] at full
  · exact h.openSlot _

theorem Device.Quiet.tick (h : p.Quiet) : p.tick.Quiet :=
  Device.Quiet.takeTick (h.finishWork.of_eq rfl rfl rfl)

theorem Device.Quiet.slotOf (h : p.Quiet) (e : Half) : p.slotOf e = none := by
  simp [Device.slotOf, h.slots]

theorem Device.Quiet.slotDeadline (h : p.Quiet) (e : Half) : p.slotDeadline e = p := by
  simp [Device.slotDeadline, h.finishWork.slotOf e]

/-- R79: no slot takes a report. -/
theorem Device.Quiet.storeReport (h : p.Quiet) (e : Half) (rep : StoredReport) : (p.storeReport e rep).Quiet := by
  have done := h.finishWork
  unfold Device.storeReport Device.takeReport
  rw [done.slotOf e]
  split <;> exact done.of_eq rfl rfl rfl

end

/-- Every event leaves the part quiet. -/
theorem Device.Quiet.eventLaw : EventLaw fun p q => p.Quiet → q.Quiet where
  refl _ := id
  trans h k := k ∘ h
  frame tables slots h := ⟨Device.Unwatched.workLaw.frame tables h.unwatched, slots.slots.trans h.slots⟩
  finishWork _ h := h.finishWork
  workPiece p h := ⟨Device.Unwatched.workLaw.workPiece p h.unwatched, p.workPiece_slots.trans h.slots⟩
  tick _ h := h.tick
  renumber _ _ h := ⟨h.finishWork.unwatched.of_eq rfl fun _ => rfl, rfl⟩
  slotDeadline _ e h := by rwa [h.slotDeadline e]
  admission _ _ _ _ _ h := h.storeReport _ _
  sight p a e s _ _ h :=
    ⟨Device.Unwatched.workLaw.frame (p.sight_sameTables a e s) h.unwatched, (p.sight_sameRest a e s).1.trans h.slots⟩
  becomeStable p z level h := (p.becomeStable_sameButTrip z level).quiet h (h.unwatched.becomeStable z level)
  timeout p z _ h := (p.timeout_sameButTrip z).quiet h (h.unwatched.timeout z)

/-! ### The rows that write a table -/

section
variable {p : Device} (h : p.Quiet)
include h

theorem Device.Quiet.createSection (sec up zone phs prof : Byte) : (p.createSection sec up zone phs prof).1.Quiet := by
  rcases p.createSection_cases sec up zone phs prof with e | ⟨i, u, z, s, pr, -, -, e⟩
  · rwa [e]
  · rw [e]
    exact (h.setSection i (r := .created u z s pr) (.inr rfl)).of_eq rfl rfl rfl

theorem Device.Quiet.editSection (sec n1 n2 n3 n4 : Byte) (ta tb tc : Half) :
    (p.editSection sec n1 n2 n3 n4 ta tb tc).1.Quiet := by
  rcases p.editSection_cases sec n1 n2 n3 n4 ta tb tc with e | ⟨i, new, -, -, -, e⟩
  · rwa [e]
  · rw [e]
    exact (h.setSection i (r := { (p.sections.get i).writeTaps _ with downstream := new })
      (h.unwatched.records i)).of_eq rfl rfl rfl

theorem Device.Quiet.recallSection (sec : Byte) : (p.recallSection sec).1.Quiet := by
  rcases p.recallSection_cases sec with e | ⟨i, -, e⟩
  · rwa [e]
  · rw [e]; exact h.setSection i (.inr rfl)

/-- R20, R21: a tuned DRAFT stays one. -/
theorem Device.Quiet.tuneSection (sec profile : Byte) (ta tb tc : Half) :
    (p.tuneSection sec profile ta tb tc).1.Quiet := by
  rcases p.tuneSection_cases sec profile ta tb tc with e | ⟨i, pr, -, e⟩
  · rwa [e]
  · rw [e]
    have tuned : ((p.sections.get i).tuned pr (tapFields ta tb tc)).unwatched := h.unwatched.records i
    refine h.setSection i ?_
    rcases SectionRec.afterTune_cases (p.profiles.get pr) ((p.sections.get i).tuned pr (tapFields ta tb tc))
      with e | ⟨-, hs | hs | hs⟩
    · rwa [e]
    all_goals exact absurd hs (tuned.ne nofun nofun)

/-- R22: no record can be acknowledged. -/
theorem Device.Quiet.acknowledgeSection (sec : Byte) : (p.acknowledgeSection sec).1.Quiet := by
  rcases p.acknowledgeSection_cases sec with e | ⟨i, -, ha, -⟩
  · rwa [e]
  · unfold SectionRec.acknowledgeable at ha
    rcases h.unwatched.records i with hs | hs <;> simp [hs] at ha

theorem Device.Quiet.retireSection (sec : Byte) : (p.retireSection sec).1.Quiet := by
  rcases p.retireSection_cases sec with e | ⟨i, -, -, e⟩
  · rwa [e]
  · rw [e]
    exact (h.setSection i (r := .vacant) (.inl rfl)).of_eq rfl rfl rfl

/-- R66: COMMIT SECTION is refused in amnesia. -/
theorem Device.Quiet.commitSection (ha : p.link.amnesia = true) (sec : Byte) : (p.commitSection sec).1.Quiet := by
  unfold Device.commitSection
  simp only [ha, if_true]
  repeat' split
  all_goals exact h

theorem Device.Quiet.setZoneCommand (zone hz te ee : Byte) (tmo : Half) (db pol : Byte) :
    (p.setZoneCommand zone hz te ee tmo db pol).1.Quiet := by
  rcases p.setZoneCommand_cases zone hz te ee tmo db pol with e | ⟨z, c, e⟩
  · rwa [e]
  · rw [e]; exact (p.applyZone_sameButTrip z c).quiet h (h.unwatched.applyZone z c)

/-- R144: a manual trip has no causes. -/
theorem Device.Quiet.tripZone (zone : Byte) : (p.tripZone zone).1.Quiet := by
  rcases p.tripZone_cases zone with e | ⟨z, ⟨-, -, e⟩ | ⟨-, -, e⟩ | ⟨-, e⟩⟩
  · rwa [e]
  · rw [e]; exact ⟨h.unwatched.latchOutcome z _, h.slots⟩
  · rw [e]; exact ⟨h.unwatched.setZone rfl, h.slots⟩
  · rw [e]; exact ⟨h.unwatched.setZone (h.unwatched.causes z), h.slots⟩

theorem Device.Quiet.releaseTrip (zone : Byte) : (p.releaseTrip zone).1.Quiet := by
  rcases p.releaseTrip_cases zone with e | ⟨z, -, e⟩
  · rwa [e]
  · rw [e]; exact ⟨h.unwatched.setZone rfl, h.slots⟩

/-- R86: a restart moves no record. -/
theorem Device.Quiet.restartEvaluation : p.restartEvaluation.1.Quiet := by
  have done := h.finishWork
  unfold Device.restartEvaluation
  rcases p.finishWork.restart_cases with e | e
  · rwa [e]
  · refine ⟨⟨fun i => ?_, fun z => by rw [e.zones]; exact done.unwatched.causes z⟩, e.slots⟩
    have unwatched := done.unwatched.records i
    rw [e.sections]
    rcases SectionRec.restart_cases (p.finishWork.profileOf (p.finishWork.sections.get i))
      (p.finishWork.sections.get i) with k | ⟨-, hs | hs | hs⟩
    · rwa [k]
    all_goals exact absurd hs (unwatched.ne nofun nofun)

theorem Device.Quiet.bindNode (node : Byte) (addr : Addr) (phs : Byte) : (p.bindNode node addr phs).1.Quiet := by
  rcases p.bindNode_cases node addr phs with e | ⟨n, s, -, -, -, e⟩
  · rwa [e]
  · rw [e]; exact h.of_eq rfl rfl rfl

theorem Device.Quiet.unbindNode (node : Byte) : (p.unbindNode node).1.Quiet := by
  have done := h.finishWork
  unfold Device.unbindNode
  rcases p.finishWork.unbind_cases node with e | ⟨n, -, e⟩
  · rwa [e]
  · rw [e]
    exact ⟨done.unwatched.of_eq rfl fun _ => rfl, by
      simp [Device.removeFromSlots, Device.cascade, Device.closeOldest, done.slots]⟩

theorem Device.Quiet.loadProfile (index : Byte) (sent : Profile) : (p.loadProfile index sent).1.Quiet := by
  unfold Device.loadProfile
  split
  · exact h
  · exact h.of_eq rfl rfl rfl

theorem Device.Quiet.clearStranger (slot : Byte) : (p.clearStranger slot).1.Quiet := by
  unfold Device.clearStranger
  split
  · exact h
  · exact h.of_eq rfl rfl rfl

theorem Device.Quiet.answered {s : State} {r : List Byte} : (s.answered p r).device.Quiet :=
  h.of_eq (by simp) (by simp) (by simp)

end

theorem Device.afterReset_quiet (pins : ResetPins) (profiles : Table Profile 8) (now choices : Nat) :
    (Device.afterReset pins profiles now choices).Quiet := by
  refine ⟨⟨fun i => .inl ?_, fun z => ?_⟩, rfl⟩
  · simp [Device.afterReset, SectionRec.vacant]
  · simp [Device.afterReset, Zone.afterReset]

/-- R66: a row taken in amnesia leaves a quiet part quiet. -/
theorem exec_quiet {s t : State} {c : Instr} (h : exec c s = .next t) (ha : s.device.link.amnesia = true)
    (hq : s.device.Quiet) : t.device.Quiet := by
  by_cases hw : writesTable c
  · cases c with
    | powerOnReset | rstNReset => cases h; exact Device.afterReset_quiet _ _ _ _
    | restartEvaluation => cases h; exact hq.restartEvaluation.answered
    | loadProfile => cases h; exact (hq.loadProfile _ _).answered
    | bindNode => cases h; exact (hq.bindNode _ _ _).answered
    | unbindNode => cases h; exact (hq.unbindNode _).answered
    | clearStranger => cases h; exact (hq.clearStranger _).answered
    | createSection => cases h; exact (hq.createSection _ _ _ _ _).answered
    | editSection => cases h; exact (hq.editSection _ _ _ _ _ _ _ _).answered
    | commitSection => cases h; exact (hq.commitSection ha _).answered
    | recallSection => cases h; exact (hq.recallSection _).answered
    | tuneSection => cases h; exact (hq.tuneSection _ _ _ _ _).answered
    | acknowledgeSection => cases h; exact (hq.acknowledgeSection _).answered
    | retireSection => cases h; exact (hq.retireSection _).answered
    | setZone => cases h; exact (hq.setZoneCommand _ _ _ _ _ _ _).answered
    | tripZone => cases h; exact (hq.tripZone _).answered
    | releaseTrip => cases h; exact (hq.releaseTrip _).answered
    | _ => exact absurd hw id
  · exact Device.Quiet.eventLaw.exec h hw hq

/-! ### Every step -/

/-- R109, R140: with no CONFIRMED record, the cause lists are empty. -/
theorem Device.quiet_of_amnesiaLawful {p : Device} (ht : p.tripsLawful) (h : p.amnesiaLawful)
    (ha : p.link.amnesia = true) : p.Quiet := by
  obtain ⟨records, slots⟩ := h ha
  obtain ⟨-, -, -, listed, -⟩ := ht
  refine ⟨⟨records, fun z => List.eq_nil_iff_forall_not_mem.mpr fun i hi => ?_⟩, slots⟩
  obtain ⟨confirmed, -⟩ := (listed z i).mp hi
  exact SectionRec.unwatched.ne (st := .confirmed) (records i) nofun nofun confirmed

theorem Device.Quiet.amnesiaLawful {p : Device} (h : p.Quiet) : p.amnesiaLawful :=
  fun _ => ⟨h.unwatched.records, h.slots⟩

/-- R67: SET FEEDER ID does not lead into amnesia. -/
theorem Device.amnesia_of_setFeederId {p : Device} {b : Byte} (h : (p.setFeederId b).1.link.amnesia = true) :
    p.link.amnesia = true := by
  rcases Nat.lt_or_ge b.toNat 63 with usable | refused
  · rw [p.setFeederId_accepted (Nat.le_of_lt_succ usable)] at h
    cases h
  · rwa [p.setFeederId_badValue refused] at h

/-- R65 to R67: but for the resets, no row leads into amnesia. -/
theorem exec_amnesia {s t : State} {c : Instr} (h : exec c s = .next t) (hr : ¬ resetRow c)
    (ha : t.device.link.amnesia = true) : s.device.link.amnesia = true := by
  by_cases hf : ∃ b, c = .setFeederId b
  · obtain ⟨b, rfl⟩ := hf
    cases h
    have answer := s.answered_link (s.device.setFeederId b).1 (s.device.setFeederId b).2
    exact Device.amnesia_of_setFeederId ((congrArg LinkReceiver.amnesia answer).symm.trans ha)
  · have same := exec_sameIdentity h hr (not_exists.mp hf)
    rwa [← same.amnesia]

/-- R66: every row keeps the law of amnesia. -/
theorem exec_amnesiaLawful {s t : State} {c : Instr} (h : exec c s = .next t) (ht : s.device.tripsLawful)
    (hl : s.device.amnesiaLawful) : t.device.amnesiaLawful := by
  by_cases hr : resetRow c
  · have quiet : t.device.Quiet := by
      cases c with
      | powerOnReset | rstNReset => cases h; exact Device.afterReset_quiet _ _ _ _
      | _ => exact absurd hr id
    exact quiet.amnesiaLawful
  · intro after
    have before := exec_amnesia h hr after
    exact (exec_quiet h before (Device.quiet_of_amnesiaLawful ht hl before)).amnesiaLawful after

/-- Settles O59: a part in amnesia is quiet, and quiet it stays under every row and under its own work. -/
theorem everyStepKeepsAmnesiaLaw : Obligations.EveryStepKeepsAmnesiaLaw := by
  intro s t h ht hl
  rcases step_cases h with ⟨c, q, -, hc⟩ | ⟨-, rfl⟩
  · exact exec_amnesiaLawful hc ht hl
  · intro after
    rw [s.idle_link] at after
    exact (Device.Quiet.eventLaw.idle s (Device.quiet_of_amnesiaLawful ht hl after)).amnesiaLawful
      (by rwa [s.idle_link])

end Sys2Proof.Machine

/-! ## The Sensor Link (O10, O12, O8, O9, O11, O14) -/

namespace Sys2Proof.Machine

/-! ### The frame CRC (O10)

One shift is additive under XOR and injective, and eight of them move a low byte into the high half. -/

theorem crcShift_eq (r : Half) : crcShift r = (r <<< 1) ^^^ if r.getLsbD 15 then 0x1021#16 else 0#16 := by
  rw [crcShift, BitVec.msb_eq_getLsbD_last]
  split <;> simp [Config.crcPoly, *]

/-- The generator is odd: the lowest bit after a shift tells the bit that was shifted out. -/
theorem crcShift_getLsbD_zero (r : Half) : (crcShift r).getLsbD 0 = r.getLsbD 15 := by
  rw [crcShift_eq]
  cases r.getLsbD 15 <;> simp

theorem crcShift_injective : Function.Injective crcShift := by
  intro a b h
  have top : a.getLsbD 15 = b.getLsbD 15 := by rw [← crcShift_getLsbD_zero, ← crcShift_getLsbD_zero, h]
  have shifted : a <<< 1 = b <<< 1 := by
    rw [crcShift_eq, crcShift_eq, top] at h
    exact (BitVec.xor_left_inj _).mp h
  apply BitVec.eq_of_getLsbD_eq
  intro i hi
  rcases Nat.lt_or_ge i 15 with low | high
  · have bit := congrArg (fun x : Half => x.getLsbD (i + 1)) shifted
    have inside : i + 1 < 16 := by omega
    simpa [BitVec.getLsbD_shiftLeft, BitVec.getLsbD_eq_getElem, inside, hi] using bit
  · obtain rfl : i = 15 := by omega
    exact top

/-- Places shifted out before any bit reaches the generator. -/
theorem repeat_crcShift_toNat (r : Half) (k : Nat) (h : r.toNat * 2 ^ k < 2 ^ 16) :
    (Nat.repeat crcShift k r).toNat = r.toNat * 2 ^ k := by
  induction k with
  | zero => simp [Nat.repeat]
  | succ k ih =>
    rw [Nat.pow_succ, ← Nat.mul_assoc] at h ⊢
    have before := ih (by omega)
    have clear : (Nat.repeat crcShift k r).getLsbD 15 = false := by
      rw [BitVec.getLsbD, before]
      exact Nat.testBit_lt_two_pow (by omega)
    rw [Nat.repeat, crcShift_eq, clear]
    simp [before, Nat.shiftLeft_eq]
    omega

theorem repeat_eq_iterate {α : Type} (f : α → α) (k : Nat) (a : α) : Nat.repeat f k a = f^[k] a := by
  induction k with
  | zero => rfl
  | succ k ih => rw [Nat.repeat, ih, Function.iterate_succ_apply']

theorem crcShifts_injective : Function.Injective (Nat.repeat crcShift 8) := by
  have same : Nat.repeat crcShift 8 = crcShift^[8] := funext (repeat_eq_iterate crcShift 8)
  rw [same]
  exact crcShift_injective.iterate 8

theorem half_toNat (hi lo : Byte) : (half hi lo).toNat = hi.toNat * 256 + lo.toNat := by
  have small := lo.isLt
  have shifted : hi.toNat <<< 8 ||| lo.toNat = hi.toNat * 256 + lo.toNat := by
    rw [← Nat.shiftLeft_add_eq_or_of_lt small, Nat.shiftLeft_eq]
  exact (BitVec.toNat_append hi lo).trans shifted

/-- The eight places of a byte that stands in the low half. -/
theorem crcShifts_low (b : Byte) : Nat.repeat crcShift 8 (half 0#8 b) = half b 0#8 := by
  have small := b.isLt
  have low : (half 0#8 b).toNat = b.toNat := by simp [half_toNat]
  apply BitVec.eq_of_toNat_eq
  rw [repeat_crcShift_toNat _ _ (by omega), low]
  simp [half_toNat]

theorem half_xor_half (a b c d : Byte) : half a b ^^^ half c d = half (a ^^^ c) (b ^^^ d) := BitVec.xor_append

/-- R56: two bytes run the register out to zero exactly when they are what it held. -/
theorem crcByte_crcByte_eq_zero_iff (r : Half) (hi lo : Byte) :
    crcByte (crcByte r hi) lo = 0#16 ↔ r = half hi lo := by
  have zero : Nat.repeat crcShift 8 0#16 = 0#16 := crcShifts_low 0#8
  calc crcByte (crcByte r hi) lo = 0#16
      ↔ Nat.repeat crcShift 8 (crcByte r hi ^^^ half lo 0#8) = Nat.repeat crcShift 8 0#16 := by rw [zero, crcByte]
    _ ↔ crcByte r hi ^^^ half lo 0#8 = 0#16 := crcShifts_injective.eq_iff
    _ ↔ crcByte r hi = Nat.repeat crcShift 8 (half 0#8 lo) := by rw [crcShifts_low]; exact BitVec.xor_eq_zero_iff
    _ ↔ r ^^^ half hi 0#8 = half 0#8 lo := crcShifts_injective.eq_iff
    _ ↔ r ^^^ half hi 0#8 = half hi lo ^^^ half hi 0#8 := by simp [half_xor_half]
    _ ↔ r = half hi lo := BitVec.xor_left_inj _

theorem crcOf_append (bytes rest : List Byte) : crcOf (bytes ++ rest) = rest.foldl crcByte (crcOf bytes) := by
  rw [crcOf, List.foldl_append, ← crcOf]

/-- Settles O10: the register byte by byte, its check value, and its run through the two received bytes. -/
theorem crcRunsOutToZeroExactlyOnGoodFrames : Obligations.CrcRunsOutToZeroExactlyOnGoodFrames := by
  have check : crcOf [0x31#8, 0x32#8, 0x33#8, 0x34#8, 0x35#8, 0x36#8, 0x37#8, 0x38#8, 0x39#8] = 0x29B1#16 := by
    decide +kernel
  refine ⟨rfl, fun bytes b => ?_, check, fun bytes hi lo => ?_⟩
  · have shift : crcShift = fun r : Half => if r.getLsbD 15 then (r <<< 1) ^^^ 0x1021#16 else r <<< 1 :=
      funext fun r => by rw [crcShift, BitVec.msb_eq_getLsbD_last]; rfl
    rw [← shift, crcOf_append]
    exact repeat_eq_iterate crcShift 8 _
  · rw [crcOf_append]
    exact crcByte_crcByte_eq_zero_iff _ hi lo

/-! ### An admitted report (O12) -/

/-- R58: the place of phase B's values. -/
theorem phaseOffset_b (s : PhaseSet) : phaseOffset s .b = 8 + 4 * [s.a].count true := by
  obtain ⟨a, b, c⟩ := s
  cases a <;> rfl

/-- R58: the place of phase C's values. -/
theorem phaseOffset_c (s : PhaseSet) : phaseOffset s .c = 8 + 4 * [s.a, s.b].count true := by
  obtain ⟨a, b, c⟩ := s
  cases a <;> cases b <;> rfl

/-- R62: the values of a present phase. -/
theorem admitted_present {body : List Byte} {ph : Phase} (h : (bodyPhases body).get ph = true) {k : Nat}
    (hk : phaseOffset (bodyPhases body) ph = k) :
    admittedVoltage body ph = min 2047 (bodyHalf body k).toNat
      ∧ admittedCurrent body ph = min 32767 (bodyHalf body (k + 2)).toNat := by
  subst hk
  exact ⟨if_pos h, if_pos h⟩

/-- Settles O12: the values of each present phase at its offset; the other fields stand at fixed places. -/
theorem admittedReportIsClampedFrame : Obligations.AdmittedReportIsClampedFrame := by
  intro body n
  exact ⟨rfl, rfl, rfl, rfl, fun present => admitted_present (ph := .a) present rfl,
    fun present => admitted_present (ph := .b) present (phaseOffset_b _),
    fun present => admitted_present (ph := .c) present (phaseOffset_c _), rfl, rfl, rfl⟩

/-! ### The frame receiver (O8, O9) -/

/-! The rows of the link, the part that each makes being named. -/

section
variable {s : State} {m : Moment} {d : Device}

theorem exec_character {stop : Bool} {b : Byte} (h : (s.device.passTo m).characterReceived stop b = d) :
    exec (.characterReceived m stop b) s = .next (s.withDevice d) := by rw [← h]; rfl

theorem exec_startBit (h : (s.device.passTo m).startBit = d) : exec (.startBit m) s = .next (s.withDevice d) := by
  rw [← h]; rfl

theorem exec_gapTimerExpiry (h : s.device.gapTimerExpiry = d) :
    exec .gapTimerExpiry s = .next (s.withDevice d) := by rw [← h]; rfl

end

section
variable {p : Device} {b : Byte}

/-- R52: the part whose character in progress has reached its stop bit. -/
def Device.stopBit (p : Device) (lowAt : Option Moment) : Device :=
  p.withLink fun l => { l with inChar := false, lowAt := lowAt }

theorem Device.characterReceived_high (h : p.link.inChar = true) :
    p.characterReceived true b = (p.stopBit none).rxByte b := by
  simp [Device.characterReceived, Device.stopBit, h]

theorem Device.characterReceived_low (h : p.link.inChar = true) :
    p.characterReceived false b = (p.stopBit (some p.now)).framingError := by
  simp [Device.characterReceived, Device.stopBit, h]

/-- A byte delivered to the frame receiver. -/
theorem exec_byte {s : State} {m : Moment} (h : s.device.link.inChar = true) {d : Device}
    (hd : ((s.device.passTo m).stopBit none).rxByte b = d) :
    exec (.characterReceived m true b) s = .next (s.withDevice d) :=
  exec_character ((Device.characterReceived_high (by rwa [Device.passTo_link])).trans hd)

/-- A character whose stop bit is sampled low. -/
theorem exec_framingError {s : State} {m : Moment} (h : s.device.link.inChar = true) {d : Device}
    (hd : ((s.device.passTo m).stopBit (some (s.device.passTo m).now)).framingError = d) :
    exec (.characterReceived m false b) s = .next (s.withDevice d) :=
  exec_character ((Device.characterReceived_low (by rwa [Device.passTo_link])).trans hd)

/-! R54, R55: one equation for each state of the frame receiver. -/

theorem Device.rxByte_hunt (h : p.link.rx = .hunt) :
    p.rxByte b = if b = Config.sync1 then p.withLink fun l => l.goOn p.now .sync1 else p := by
  simp only [Device.rxByte, h]

theorem Device.rxByte_sync1 (h : p.link.rx = .sync1) :
    p.rxByte b =
      if b = Config.sync2 then p.withLink fun l => l.goOn p.now .length
      else if b = Config.sync1 then p.withLink fun l => l.goOn p.now .sync1
      else p.withLink LinkReceiver.toHunt := by
  simp only [Device.rxByte, h]

theorem Device.rxByte_length (h : p.link.rx = .length) :
    p.rxByte b =
      if 1 ≤ b.toNat ∧ b.toNat ≤ 32 then
        p.withLink fun l => { l.goOn p.now .body with lenByte := b, body := [] }
      else p.abandonFrame LinkCounters.countFormatErr := by
  simp only [Device.rxByte, h, Device.lengthByte]

theorem Device.rxByte_body (h : p.link.rx = .body) : p.rxByte b = p.withLink fun l => l.bodyByteIn p.now b := by
  simp only [Device.rxByte, h]

theorem Device.rxByte_crcHigh (h : p.link.rx = .crcHigh) :
    p.rxByte b = p.withLink fun l => { l.goOn p.now .crcLow with crcHigh := b } := by
  simp only [Device.rxByte, h]

theorem Device.rxByte_crcLow (h : p.link.rx = .crcLow) :
    p.rxByte b =
      (p.withLink LinkReceiver.toHunt).checkFrame p.link.lenByte p.link.body (half p.link.crcHigh b) := by
  simp only [Device.rxByte, h]

/-- R54: a body byte that is not the last. -/
theorem LinkReceiver.bodyByteIn_more {l : LinkReceiver} {now : Moment} (h : l.rx = .body)
    (more : l.body.length + 1 < l.lenByte.toNat) :
    l.bodyByteIn now b = { l with gapFrom := some now, body := l.body ++ [b] } := by
  simp [LinkReceiver.bodyByteIn, LinkReceiver.goOn, Nat.not_le.mpr more, h]

/-- R54: the last body byte. -/
theorem LinkReceiver.bodyByteIn_last {l : LinkReceiver} {now : Moment} (last : l.body.length + 1 = l.lenByte.toNat) :
    l.bodyByteIn now b = { l with rx := .crcHigh, gapFrom := some now, body := l.body ++ [b] } := by
  simp [LinkReceiver.bodyByteIn, LinkReceiver.goOn, last]

end

/-- Settles O8: the state of the receiver names the equation, and the byte the branch. -/
theorem byteMovesFrameReceiver : Obligations.ByteMovesFrameReceiver := by
  intro s m b inChar
  let q := (s.device.passTo m).stopBit none
  have hunt := Device.rxByte_hunt (p := q) (b := b)
  have sync1 := Device.rxByte_sync1 (p := q) (b := b)
  have length := Device.rxByte_length (p := q) (b := b)
  have body := Device.rxByte_body (p := q) (b := b)
  have crcHigh := Device.rxByte_crcHigh (p := q) (b := b)
  refine ⟨fun rx sync => exec_byte inChar ((hunt rx).trans (if_pos sync)),
    fun rx noise => exec_byte inChar ((hunt rx).trans (if_neg noise)),
    fun rx sync => exec_byte inChar ((sync1 rx).trans (if_pos sync)),
    fun rx again => exec_byte inChar ((sync1 rx).trans ((if_neg (by rw [again]; decide)).trans (if_pos again))),
    fun rx other noise => exec_byte inChar ((sync1 rx).trans ((if_neg other).trans (if_neg noise))),
    fun rx low high => exec_byte inChar ((length rx).trans (if_pos ⟨low, high⟩)),
    fun rx bad => exec_byte inChar ((length rx).trans (if_neg (by omega))),
    fun rx more => exec_byte inChar ((body rx).trans ?_), fun rx last => exec_byte inChar ((body rx).trans ?_),
    fun rx => exec_byte inChar (crcHigh rx)⟩
  · exact congrArg (fun l => { q with link := l }) (LinkReceiver.bodyByteIn_more (l := q.link) rx more)
  · exact congrArg (fun l => { q with link := l }) (LinkReceiver.bodyByteIn_last (l := q.link) last)

section
variable {p : Device}

/-- R52, R57: a start bit is seen. -/
theorem LinkReceiver.seesStart_iff (l : LinkReceiver) (now : Moment) :
    l.seesStart now = true ↔ l.inChar = false ∧ ∀ t, l.lowAt = some t → t < now := by
  cases h : l.lowAt <;> simp [LinkReceiver.seesStart, h]

theorem Device.gapOverdue_iff : p.gapOverdue = true ↔ ∃ f, p.link.gapFrom = some f ∧ f + 8192 < p.now := by
  unfold Device.gapOverdue
  cases p.link.gapFrom with
  | none => simp
  | some f => exact decide_eq_true_iff.trans ⟨fun late => ⟨f, rfl, late⟩, fun ⟨_, e, late⟩ => by cases e; exact late⟩

/-- R52, R57: a start bit within the limit of the gap timer, or with none running. -/
theorem Device.startBit_within (h : p.link.seesStart p.now = true) (hg : ¬ p.gapOverdue = true) :
    p.startBit = p.withLink fun l => { l with inChar := true, lowAt := none, gapFrom := none } := by
  simp [Device.startBit, h, hg]

/-- R57: a start bit beyond it. -/
theorem Device.startBit_beyond (h : p.link.seesStart p.now = true) (hg : p.gapOverdue = true) :
    p.startBit = p.gapExpire.withLink fun l => { l with inChar := true, lowAt := none, gapFrom := none } := by
  simp only [Device.startBit, h, hg, if_true]

theorem Device.gapTimerExpiry_running {f : Moment} (h : p.link.gapFrom = some f) :
    p.gapTimerExpiry = (p.passTo (f + 8192)).gapExpire := by
  simp only [Device.gapTimerExpiry, h]
  rfl

end

theorem RxState.inFrame_iff (rx : RxState) :
    rx.inFrame = true ↔ rx = .length ∨ rx = .body ∨ rx = .crcHigh ∨ rx = .crcLow := by
  cases rx <;> simp [RxState.inFrame]

/-- Settles O9: a frame in progress is counted as abandoned, and a start bit finds the gap timer as the rule has
it. -/
theorem framingErrorsAndGapsAbandonFrames : Obligations.FramingErrorsAndGapsAbandonFrames := by
  refine ⟨fun s m b inChar => ⟨fun idle => exec_framingError inChar (if_neg ?_),
    fun hunt sync1 => exec_framingError inChar (if_pos ?_)⟩, fun s m => ?_, RxState.inFrame_iff⟩
  · have idle : (s.device.passTo m).link.rx.inFrame ≠ true := by rcases idle with e | e <;> rw [e] <;> decide
    exact idle
  · have busy : (s.device.passTo m).link.rx.inFrame = true := by
      revert hunt sync1
      cases (s.device.passTo m).link.rx <;> simp [RxState.inFrame]
    exact busy
  · have sees := (LinkReceiver.seesStart_iff (s.device.passTo m).link (s.device.passTo m).now).mpr
    refine ⟨fun f running => exec_gapTimerExpiry (Device.gapTimerExpiry_running running),
      fun seen idle => exec_startBit (Device.startBit_within (sees seen) fun overdue => ?_),
      fun f seen running within => exec_startBit (Device.startBit_within (sees seen) fun overdue => ?_),
      fun f seen running beyond => exec_startBit (Device.startBit_beyond (sees seen) ?_)⟩
    · obtain ⟨f, running, -⟩ := Device.gapOverdue_iff.mp overdue
      cases idle.symm.trans running
    · obtain ⟨f, running', beyond⟩ := Device.gapOverdue_iff.mp overdue
      cases running.symm.trans running'
      exact absurd within (Nat.not_le.mpr beyond)
    · exact Device.gapOverdue_iff.mpr ⟨f, running, beyond⟩

end Sys2Proof.Machine

/-! ## A complete frame (O11, O14) -/

namespace Sys2Proof.Machine

section
variable {p : Device} {len : Byte} {body : List Byte} {crc : Half}

/-! ### Admission (O11)

R59: one equation for each condition, those before it having failed. -/

/-- R59, check 3: the body of a report that is long enough and has the length its phases need. -/
theorem reportMalformed_iff (body : List Byte) :
    reportMalformed body = true ↔ ¬ (8 ≤ body.length ∧ 0 < PhaseSet.count (bodyPhases body)
      ∧ body.length = 8 + 4 * PhaseSet.count (bodyPhases body)) := by
  simp only [reportMalformed, Bool.or_eq_true, decide_eq_true_eq, beq_iff_eq, bne_iff_ne]
  omega

/-- R59, check 4; R60: a report of the part's own feeder. -/
theorem LinkReceiver.foreign_iff (l : LinkReceiver) (body : List Byte) :
    l.foreign body = true ↔ ¬ ((body.getD 1 0#8).toNat = l.feederId ∧ l.feederId ≠ 63) := by
  simp only [LinkReceiver.foreign, bodyByte, Config.amnesiaId, Bool.or_eq_true, bne_iff_ne, beq_iff_eq]
  omega

theorem LinkReceiver.joins_iff (l : LinkReceiver) (a : Addr) :
    l.joins a = true ↔ a &&& l.joinMask = l.joinValue &&& l.joinMask := by
  simp [LinkReceiver.joins]

theorem Device.checkFrame_badCrc (h : ¬ crcOf (len :: body) = crc) :
    p.checkFrame len body crc = p.countLinkError LinkCounters.countCrcErr := if_pos h

section
variable (good : crcOf (len :: body) = crc)
include good

theorem Device.checkFrame_unsupported (h : ¬ bodyByte body 0 = Config.reportType) :
    p.checkFrame len body crc = p.withCounters LinkCounters.countUnsupported :=
  (if_neg (not_not.mpr good)).trans (if_pos h)

variable (report : bodyByte body 0 = Config.reportType)
include report

theorem Device.checkFrame_malformed (h : reportMalformed body = true) :
    p.checkFrame len body crc = p.countLinkError LinkCounters.countFormatErr :=
  (if_neg (not_not.mpr good)).trans ((if_neg (not_not.mpr report)).trans (if_pos h))

variable (sized : ¬ reportMalformed body = true)
include sized

theorem Device.checkFrame_foreign (h : p.link.foreign body = true) :
    p.checkFrame len body crc = p.withCounters LinkCounters.countForeign :=
  (if_neg (not_not.mpr good)).trans ((if_neg (not_not.mpr report)).trans ((if_neg sized).trans (if_pos h)))

variable (ours : ¬ p.link.foreign body = true)
include ours

theorem Device.checkFrame_unbound (h : p.nodeOf (bodyAddr body) = none) :
    p.checkFrame len body crc =
      if p.link.joins (bodyAddr body) then p.sight (bodyAddr body) (bodyEpoch body) (bodyPhases body)
      else p.withCounters LinkCounters.countUnknown := by
  simp [Device.checkFrame, good, report, sized, ours, h]

theorem Device.checkFrame_bound {n : NodeIx} (h : p.nodeOf (bodyAddr body) = some n) :
    p.checkFrame len body crc =
      if bodyPhases body ≠ (p.nodes.get n).phases then p.countLinkError LinkCounters.countFormatErr
      else p.storeReport (bodyEpoch body) (admitted body n) := by
  simp [Device.checkFrame, good, report, sized, ours, h]

end

theorem Device.nodeOf_eq_none {a : Addr} (h : ∀ n, (p.nodes.get n).bound = true → (p.nodes.get n).addr ≠ a) :
    p.nodeOf a = none :=
  List.find?_eq_none.mpr fun n _ => by simpa using h n

/-- R33: the node bound to an address is the only one. -/
theorem Device.nodeOf_eq_some (lawful : p.nodesLawful) {a : Addr} {n : NodeIx} (hb : (p.nodes.get n).bound = true)
    (ha : (p.nodes.get n).addr = a) : p.nodeOf a = some n := by
  obtain ⟨-, -, -, distinct⟩ := lawful
  refine find?_finRange (by simp [hb, ha]) fun j hj => eq_false_of_ne_true fun held => ?_
  rw [Bool.and_eq_true, beq_iff_eq] at held
  obtain ⟨bound, addr⟩ := held
  exact hj.ne (distinct j n bound hb (addr.trans ha.symm))

end

/-- Settles O11: each condition with those before it failed. -/
theorem firstConditionDecidesFrame : Obligations.FirstConditionDecidesFrame := by
  intro s m b rx inChar
  let p := s.device.passTo m
  let q := (p.stopBit none).withLink LinkReceiver.toHunt
  have in_crcLow : (p.stopBit none).link.rx = .crcLow :=
    (congrArg LinkReceiver.rx (s.device.passTo_link m)).trans rx
  have frame : ∀ {d : Device}, q.checkFrame p.link.lenByte p.link.body (half p.link.crcHigh b) = d →
      exec (.characterReceived m true b) s = .next (s.withDevice d) := fun h =>
    exec_byte inChar ((Device.rxByte_crcLow in_crcLow).trans h)
  have sized_iff := reportMalformed_iff p.link.body
  have ours_iff := LinkReceiver.foreign_iff q.link p.link.body
  have joins_iff := LinkReceiver.joins_iff q.link (bodyAddr p.link.body)
  refine ⟨fun bad => frame (Device.checkFrame_badCrc bad),
    fun good other => frame (Device.checkFrame_unsupported good other),
    fun good report misfit => frame (Device.checkFrame_malformed good report (sized_iff.mpr misfit)),
    fun good report sized alien => frame (Device.checkFrame_foreign good report
      (fun k => sized_iff.mp k sized) (ours_iff.mpr alien)),
    fun good report sized ours unbound => ?_, fun n lawful good report sized ours bound addr => ?_⟩
  · have stranger := Device.checkFrame_unbound good report (fun k => sized_iff.mp k sized)
      (fun k => ours_iff.mp k ours) (Device.nodeOf_eq_none (p := q) unbound)
    exact ⟨fun joins => frame (stranger.trans (if_pos (joins_iff.mpr joins))),
      fun apart => frame (stranger.trans (if_neg fun k => apart (joins_iff.mp k)))⟩
  · have known := Device.checkFrame_bound good report (fun k => sized_iff.mp k sized)
      (fun k => ours_iff.mp k ours) (Device.nodeOf_eq_some (p := q) lawful bound addr)
    exact ⟨fun differ => frame (known.trans (if_pos differ)),
      fun same => frame (known.trans (if_neg (not_not.mpr same)))⟩

/-! ### Feeder ID 63 (O14) -/

/-- Nothing of the part has changed but the Link Receiver and the alert flags. -/
def Device.SameButLink (p q : Device) : Prop := q = { p with link := q.link, alerts := q.alerts }

section
variable {p q r : Device}

theorem Device.SameButLink.trans (h : p.SameButLink q) (k : q.SameButLink r) : p.SameButLink r := by
  unfold Device.SameButLink at h k ⊢
  rw [k, h]

/-- R60: under feeder ID 63 every report is foreign. -/
theorem Device.checkFrame_sameButLink (h : p.link.feederId = 63) (len : Byte) (body : List Byte) (crc : Half) :
    p.SameButLink (p.checkFrame len body crc) := by
  have alien : p.link.foreign body = true := (LinkReceiver.foreign_iff _ _).mpr fun ours => ours.2 h
  unfold Device.checkFrame
  rw [if_pos alien]
  repeat' split
  all_goals rfl

theorem Device.rxByte_sameButLink (h : p.link.feederId = 63) (b : Byte) : p.SameButLink (p.rxByte b) := by
  cases rx : p.link.rx with
  | hunt => rw [Device.rxByte_hunt rx]; split <;> rfl
  | sync1 =>
    rw [Device.rxByte_sync1 rx]
    repeat' split
    all_goals rfl
  | length => rw [Device.rxByte_length rx]; split <;> rfl
  | body => rw [Device.rxByte_body rx]; rfl
  | crcHigh => rw [Device.rxByte_crcHigh rx]; rfl
  | crcLow =>
    rw [Device.rxByte_crcLow rx]
    exact .trans (q := p.withLink LinkReceiver.toHunt) rfl
      (Device.checkFrame_sameButLink (p := p.withLink LinkReceiver.toHunt) h _ _ _)

theorem Device.framingError_sameButLink (p : Device) : p.SameButLink p.framingError := by
  unfold Device.framingError
  split <;> rfl

theorem Device.characterReceived_sameButLink (h : p.link.feederId = 63) (stop : Bool) (b : Byte) :
    p.SameButLink (p.characterReceived stop b) := by
  cases inChar : p.link.inChar with
  | false => simp [Device.characterReceived, inChar, Device.SameButLink]
  | true =>
    cases stop with
    | true =>
      rw [Device.characterReceived_high inChar]
      exact .trans (q := p.stopBit none) rfl (Device.rxByte_sameButLink (p := p.stopBit none) h b)
    | false =>
      rw [Device.characterReceived_low inChar]
      exact .trans (q := p.stopBit (some p.now)) rfl (Device.framingError_sameButLink _)

end

/-- Settles O14: time passes, and then the character moves the Link Receiver and the alert flags alone. -/
theorem noReportIsHeardUnderFeederId63 : Obligations.NoReportIsHeardUnderFeederId63 := by
  intro s t m stop b id h
  obtain ⟨link, -, strangers, overwrites, -⟩ := s.device.passTo_kept m
  have same := Device.characterReceived_sameButLink (p := s.device.passTo m) (by rw [link]; exact id) stop b
  cases h
  dsimp only
  rw [same]
  exact ⟨rfl, rfl, strangers, overwrites, rfl, rfl, rfl⟩

end Sys2Proof.Machine

/-! ## The part's own work, and rows that do not apply (O2, O4) -/

namespace Sys2Proof.Machine

/-! ### The rows that are due (O2) -/

section
variable (p : Device) (row : Instr)

/-- R57. -/
theorem Device.mem_gapDue :
    row ∈ p.gapDue ↔ row = .gapTimerExpiry ∧ ∃ f, p.link.gapFrom = some f ∧ f + 8192 ≤ p.now := by
  have limit : ms Config.gapLimitMs = 8192 := rfl
  unfold Device.gapDue
  cases p.link.gapFrom with
  | none => simp
  | some f => simp [limit, and_comm]

/-- R72, R73, R75. -/
theorem Device.mem_clockDue :
    row ∈ p.clockDue ↔
      (row = .syncTimerExpiry ∧ p.clock.lock = .locked
          ∧ ∃ r, p.clock.ref = some r ∧ r + (p.clock.runPeriod + p.clock.runGrace) * 4096 ≤ p.now)
        ∨ (row = .holdoverTick ∧ p.clock.lock = .holdover
          ∧ ∃ r, p.clock.ref = some r ∧ r + p.clock.runPeriod * 4096 ≤ p.now)
        ∨ (row = .freeTick ∧ p.clock.lock = .free
          ∧ ∃ r, p.clock.ref = some r ∧ r + p.clock.runPeriod * 4096 ≤ p.now) := by
  have late : p.clock.lateLimit = (p.clock.runPeriod + p.clock.runGrace) * 4096 := rfl
  have period : ms p.clock.runPeriod = p.clock.runPeriod * 4096 := rfl
  unfold Device.clockDue
  rw [late, period]
  cases p.clock.ref with
  | none => cases p.clock.lock <;> simp
  | some r => cases p.clock.lock <;> simp [and_comm]

/-- R81. -/
theorem Device.mem_slotsDue :
    row ∈ p.slotsDue ↔ ∃ x ∈ p.slots, row = .slotDeadline x.epoch ∧ x.deadline ≤ p.now := by
  simp only [Device.slotsDue, List.mem_map, List.mem_filter, decide_eq_true_eq]
  exact ⟨fun ⟨x, ⟨hx, due⟩, e⟩ => ⟨x, hx, e.symm, due⟩, fun ⟨x, hx, e, due⟩ => ⟨x, ⟨hx, due⟩, e.symm⟩⟩

/-- R133, R146. -/
theorem Device.mem_zoneDue (z : ZoneIx) :
    row ∈ p.zoneDue z ↔
      (∃ d, row = .debounceExpiry z.val ∧ (p.zones.get z).interval = some d ∧ d.ends ≤ p.now)
        ∨ ∃ x, row = .tripTimeout z.val ∧ (p.zones.get z).seq = .tripping ∧ (p.zones.get z).timer = some x
          ∧ x ≤ p.now := by
  unfold Device.zoneDue
  rw [List.mem_append]
  refine or_congr ?_ ?_
  · cases (p.zones.get z).interval with
    | none => simp
    | some d => simp [and_comm]
  · cases (p.zones.get z).timer with
    | none => cases (p.zones.get z).seq <;> simp
    | some x => cases (p.zones.get z).seq <;> simp [and_comm]

/-- R173. -/
theorem Device.mem_commandDue :
    row ∈ p.commandDue ↔ p.port.state = .executing ∧ decodeCommand p.port.cmd = some row := by
  unfold Device.commandDue
  cases p.port.state <;> simp [Option.mem_toList]

theorem Device.mem_due :
    row ∈ p.due ↔ row ∈ p.gapDue ∨ row ∈ p.clockDue ∨ row ∈ p.slotsDue ∨ (∃ z, row ∈ p.zoneDue z)
      ∨ row ∈ p.commandDue := by
  simp [Device.due]

end

/-! ### A step on an empty queue (O2) -/

theorem HeldWork.inHand_iff (w : HeldWork) : w.inHand = true ↔ w.closes ≠ [] := by
  simp [HeldWork.inHand]

/-- What a choice takes: a row, raised, or the piece of work in hand. -/
theorem State.choose_cases (s : State) (rows : List Instr) (inHand : Bool) :
    (∃ row ∈ rows, s.choose rows inHand = { device := s.device.chosen, pending := [row] })
      ∨ s.choose rows inHand = { s with device := s.device.chosen.workPiece }
        ∧ rows.length ≤ Config.arbiter s.device.choices % (rows.length + inHand.toNat) := by
  unfold State.choose
  split
  · rename_i row taken
    exact .inl ⟨row, List.mem_of_getElem? taken, rfl⟩
  · rename_i beyond
    exact .inr ⟨rfl, List.getElem?_eq_none_iff.mp beyond⟩

/-- With no work in hand a choice takes a row. -/
theorem State.choose_row (s : State) {rows : List Instr} (h : rows ≠ []) :
    ∃ row ∈ rows, s.choose rows false = { device := s.device.chosen, pending := [row] } := by
  refine (s.choose_cases rows false).resolve_right fun ⟨_, beyond⟩ => ?_
  have some_row := List.length_pos_of_ne_nil h
  have below := Nat.mod_lt (Config.arbiter s.device.choices) some_row
  exact absurd beyond (Nat.not_le.mpr below)

section
variable {s : State}

theorem State.idle_cycle (due : s.device.due = []) (inHand : s.device.held.inHand = false) :
    s.idle = { s with device := s.device.cycle } := by
  simp only [State.idle, due, inHand]

theorem State.idle_piece (due : s.device.due = []) (inHand : s.device.held.inHand = true) :
    s.idle = { s with device := s.device.workPiece } := by
  simp only [State.idle, due, inHand]

theorem State.idle_row {row : Instr} (due : s.device.due = [row]) (inHand : s.device.held.inHand = false) :
    s.idle = s.raise row := by
  simp only [State.idle, due, inHand]

theorem State.idle_rows (due : 2 ≤ s.device.due.length) : s.idle = s.choose s.device.due s.device.held.inHand := by
  unfold State.idle
  split
  case h_4 => rfl
  all_goals simp_all

theorem State.idle_beside (due : s.device.due ≠ []) (inHand : s.device.held.inHand = true) :
    s.idle = s.choose s.device.due true := by
  unfold State.idle
  split
  case h_4 => rw [inHand]
  all_goals simp_all

end

/-- Settles O2: what is due and what is in hand decide the step; the rows due are found list by list. -/
theorem idleStepRaisesDueRowOrPassesOneCycle : Obligations.IdleStepRaisesDueRowOrPassesOneCycle := by
  intro s empty
  have idle_step : step s = .next s.idle := by simp only [step, empty]
  have at_work := s.device.held.inHand_iff
  have at_rest : ¬ s.device.held.closes ≠ [] → s.device.held.inHand = false := fun h =>
    eq_false_of_ne_true fun k => h (at_work.mp k)
  refine ⟨s.idle, idle_step, fun due rest => s.idle_cycle due (at_rest rest),
    fun due work => State.idle_piece due (at_work.mpr work), fun row due rest => State.idle_row due (at_rest rest),
    fun due rest => ?_, fun due work => ?_, fun row => ?_⟩
  · rw [State.idle_rows due, at_rest rest]
    exact s.choose_row (List.ne_nil_of_length_pos (by omega))
  · rw [State.idle_beside due (at_work.mpr work)]
    rcases s.choose_cases s.device.due true with raised | ⟨piece, -⟩
    · exact .inr raised
    · exact .inl piece
  · rw [Device.mem_due, Device.mem_gapDue, Device.mem_clockDue, Device.mem_slotsDue, Device.mem_commandDue]
    simp only [Device.mem_zoneDue, exists_or, or_assoc]

/-! ### Rows that do not apply (O4) -/

theorem State.run_same {s : State} {f : Device → Device} (h : f s.device = s.device) : s.run f = .next s := by
  rw [State.run_eq, h]

theorem Device.passTo_now (p : Device) (m : Moment) : (p.passTo m).now = max p.now m := by
  obtain ⟨-, -, -, -, -, -, now, -⟩ := p.passTo_kept m
  exact now

theorem Device.passTo_clock (p : Device) (m : Moment) : (p.passTo m).clock = p.clock := by
  obtain ⟨-, clock, -⟩ := p.passTo_kept m
  exact clock

theorem exec_syncPulse {s : State} {m : Moment} {d : Device} (h : (s.device.passTo m).syncPulse = d) :
    exec (.syncPulse m) s = .next (s.withDevice d) := by rw [← h]; rfl

section
variable {p : Device} {r : Moment}

theorem Device.characterReceived_none (h : p.link.inChar = false) (stop : Bool) (b : Byte) :
    p.characterReceived stop b = p := if_neg (by simp [h])

theorem Device.startBit_unseen (h : ¬ p.link.seesStart p.now = true) : p.startBit = p := if_neg h

/-- R72: a pulse later than the limit at which the timer must have expired. -/
theorem Device.syncPulse_late_locked (lock : p.clock.lock = .locked) (ref : p.clock.ref = some r)
    (late : (p.clock.runPeriod + p.clock.runGrace) * 4096 < p.now - r) : p.syncPulse = p := by
  have order : (p.clock.runPeriod - p.clock.runGrace) * 4096 ≤ (p.clock.runPeriod + p.clock.runGrace) * 4096 :=
    Nat.mul_le_mul_right _ (by omega)
  have early : ¬ p.now - r < p.clock.earlyLimit := Nat.not_lt.mpr (order.trans late.le)
  have beyond : ¬ p.now - r ≤ p.clock.lateLimit := Nat.not_le.mpr late
  simp only [Device.syncPulse, lock, ref, Device.pulseLocked, early, beyond, if_false]

/-- R73: a pulse later than the internal tick that must have come. -/
theorem Device.syncPulse_late_holdover (lock : p.clock.lock = .holdover) (ref : p.clock.ref = some r)
    (late : p.clock.runPeriod * 4096 < p.now - r) (lawful : p.clock.lawful) : p.syncPulse = p := by
  obtain ⟨-, ⟨-, -, half⟩, -⟩ := lawful
  have grace : ¬ p.now - r ≤ ms p.clock.runGrace :=
    Nat.not_le.mpr (Nat.lt_of_le_of_lt (Nat.mul_le_mul_right _ (by omega)) late)
  have early : ¬ p.now - r < p.clock.earlyLimit :=
    Nat.not_lt.mpr ((Nat.mul_le_mul_right _ (Nat.sub_le _ _)).trans late.le)
  have beyond : ¬ p.now - r ≤ ms p.clock.runPeriod := Nat.not_le.mpr late
  simp only [Device.syncPulse, lock, ref, Device.pulseHoldover, grace, early, beyond, if_false]

theorem Device.slotDeadline_unopened {e : Half} (h : ∀ x ∈ p.finishWork.slots, x.epoch ≠ e) :
    p.slotDeadline e = p := by
  have unopened : p.finishWork.slotOf e = none := by simpa [Device.slotOf, List.findIdx?_eq_none_iff] using h
  simp only [Device.slotDeadline, unopened]

end

section
variable {s : State}

theorem execSyncTimerExpiry_of_ne (h : s.device.clock.lock ≠ .locked) : execSyncTimerExpiry s = .next s := by
  unfold execSyncTimerExpiry
  refine State.run_same ?_
  split
  · exact absurd ‹_› h
  · rfl

theorem execHoldoverTick_of_ne (h : s.device.clock.lock ≠ .holdover) : execHoldoverTick s = .next s := by
  unfold execHoldoverTick
  refine State.run_same ?_
  split
  · exact absurd ‹_› h
  · rfl

theorem execFreeTick_of_ne (h : s.device.clock.lock ≠ .free) : execFreeTick s = .next s := by
  unfold execFreeTick
  refine State.run_same ?_
  split
  · exact absurd ‹_› h
  · rfl

theorem execSlotDeadline_unopened {e : Half} (h : ∀ x ∈ s.device.finishWork.slots, x.epoch ≠ e) :
    execSlotDeadline e s = .next s := by
  unfold execSlotDeadline
  exact State.run_same (Device.slotDeadline_unopened h)

end

/-- Settles O4: in each case the row's own condition fails. -/
theorem rowsThatDoNotApplyChangeNothing : Obligations.RowsThatDoNotApplyChangeNothing := by
  intro s m b e
  have clock := s.device.passTo_clock m
  have now := s.device.passTo_now m
  have link := s.device.passTo_link m
  refine ⟨fun idle => State.run_same ?_, fun silent stop => exec_character (Device.characterReceived_none ?_ stop b),
    fun busy => exec_startBit (Device.startBit_unseen fun seen => ?_),
    fun t low still => exec_startBit (Device.startBit_unseen fun seen => ?_),
    execSyncTimerExpiry_of_ne, execHoldoverTick_of_ne, execFreeTick_of_ne,
    fun r lock ref late _ => exec_syncPulse (Device.syncPulse_late_locked (r := r) ?_ ?_ ?_),
    fun r lock ref late lawful => exec_syncPulse (Device.syncPulse_late_holdover (r := r) ?_ ?_ ?_ ?_),
    execSlotDeadline_unopened,
    fun h => State.run_same (if_neg h), fun h => State.run_same (if_neg (not_and_or.mpr h)),
    fun h => State.run_same (if_neg (not_and_or.mpr h)), fun h => State.run_same (if_neg ?_),
    fun h => State.run_same (if_neg (not_and_or.mpr h)), fun h => State.run_same (if_neg h),
    fun h => State.run_same (if_neg (by simp [h]))⟩
  · simp only [Device.gapTimerExpiry, idle]
  · rw [link, silent]
  · obtain ⟨free, -⟩ := (LinkReceiver.seesStart_iff _ _).mp seen
    rw [link, busy] at free
    cases free
  · obtain ⟨-, high⟩ := (LinkReceiver.seesStart_iff _ _).mp seen
    rw [link, now] at high
    exact absurd still (Nat.not_le.mpr (high t low))
  · rw [clock, lock]
  · rw [clock, ref]
  · rwa [clock, now]
  · rw [clock, lock]
  · rw [clock, ref]
  · rwa [clock, now]
  · rwa [clock]
  · rintro ⟨write, taken⟩
    rcases h with h | h | h
    · exact h write
    · rw [h] at taken; simp at taken
    · rw [h] at taken; simp at taken

end Sys2Proof.Machine

/-! ## The Epoch Clock (O25, O16, O17, O18, O19) -/

namespace Sys2Proof.Machine

/-! ### READ EPOCH CLOCK and READ DEVICE (O25) -/

/-- R163, R165: six marks as a number. -/
theorem marksByte_eq (m0 m1 m2 m3 m4 m5 : Bool) :
    bits8 false false m5 m4 m3 m2 m1 m0 =
      natByte ((if m0 then 1 else 0) + (if m1 then 2 else 0) + (if m2 then 4 else 0) + (if m3 then 8 else 0)
        + (if m4 then 16 else 0) + if m5 then 32 else 0) := by
  revert m0 m1 m2 m3 m4 m5
  decide

theorem ClockSource.code_eq (c : ClockSource) : c.code = if c = .external then 0x00#8 else 0x01#8 := by
  cases c <;> rfl

/-- Settles O25: both reads byte by byte. -/
theorem clockAndDeviceReadsReturnStatedBytes : Obligations.ClockAndDeviceReadsReturnStatedBytes := by
  intro s
  dsimp only
  refine ⟨?_, ?_⟩
  · rw [← ClockSource.code_eq]
    rfl
  · rw [← marksByte_eq, ← marksByte_eq]
    rfl

/-! ### A pulse (O16) -/

section
variable {p : Device} {r : Moment}

/-- R71. -/
theorem Device.syncPulse_acquiring (lock : p.clock.lock = .acquiring) :
    p.syncPulse = (p.withClock fun c => c.relock p.now).tick := by
  simp only [Device.syncPulse, lock]

/-- R75. -/
theorem Device.syncPulse_free (lock : p.clock.lock = .free) : p.syncPulse = p := by
  simp only [Device.syncPulse, lock]

section
variable (lock : p.clock.lock = .locked) (ref : p.clock.ref = some r)
include lock ref

/-- R72: a pulse before the window. -/
theorem Device.syncPulse_locked_early (early : p.now - r < (p.clock.runPeriod - p.clock.runGrace) * 4096) :
    p.syncPulse = p.withClock EpochClock.glitch := by
  simp only [Device.syncPulse, lock, ref]
  exact if_pos early

/-- R72: a pulse in the window. -/
theorem Device.syncPulse_locked_on_time (after : (p.clock.runPeriod - p.clock.runGrace) * 4096 ≤ p.now - r)
    (before : p.now - r ≤ (p.clock.runPeriod + p.clock.runGrace) * 4096) :
    p.syncPulse = (p.withClock fun c => c.begin p.now).tick := by
  simp only [Device.syncPulse, lock, ref]
  exact (if_neg (Nat.not_lt.mpr after)).trans (if_pos before)

end

section
variable (lock : p.clock.lock = .holdover) (ref : p.clock.ref = some r)
include lock ref

/-- R73: a pulse within the grace of the internal tick. -/
theorem Device.syncPulse_holdover_just_ticked (grace : p.now - r ≤ p.clock.runGrace * 4096) :
    p.syncPulse = p.withClock fun c => c.relock p.now := by
  simp only [Device.syncPulse, lock, ref]
  exact if_pos grace

/-- R73: a pulse between the grace and the window. -/
theorem Device.syncPulse_holdover_early (grace : p.clock.runGrace * 4096 < p.now - r)
    (early : p.now - r < (p.clock.runPeriod - p.clock.runGrace) * 4096) :
    p.syncPulse = p.withClock EpochClock.glitch := by
  simp only [Device.syncPulse, lock, ref]
  exact (if_neg (Nat.not_le.mpr grace)).trans (if_pos early)

/-- R73: a pulse in the window. -/
theorem Device.syncPulse_holdover_on_time (grace : p.clock.runGrace * 4096 < p.now - r)
    (after : (p.clock.runPeriod - p.clock.runGrace) * 4096 ≤ p.now - r)
    (before : p.now - r ≤ p.clock.runPeriod * 4096) :
    p.syncPulse = (p.withClock fun c => c.relock p.now).tick := by
  simp only [Device.syncPulse, lock, ref]
  exact (if_neg (Nat.not_le.mpr grace)).trans ((if_neg (Nat.not_lt.mpr after)).trans (if_pos before))

end

end

/-- Settles O16: the lock state and the delay name the row of R71 to R73. -/
theorem syncPulseByLockState : Obligations.SyncPulseByLockState := by
  intro s m
  refine ⟨fun lock => exec_syncPulse (Device.syncPulse_acquiring lock),
    fun lock => exec_syncPulse (Device.syncPulse_free lock),
    fun r lock ref => ⟨fun early => ?_, fun after before => ?_⟩,
    fun r lock ref => ⟨fun grace => ?_, fun grace early => ?_, fun grace after before => ?_⟩⟩
  · exact exec_syncPulse (Device.syncPulse_locked_early lock ref early)
  · exact exec_syncPulse (Device.syncPulse_locked_on_time lock ref after before)
  · exact exec_syncPulse (Device.syncPulse_holdover_just_ticked lock ref grace)
  · exact exec_syncPulse (Device.syncPulse_holdover_early lock ref grace early)
  · exact exec_syncPulse (Device.syncPulse_holdover_on_time lock ref grace after before)

/-! ### The clock's own ticks (O17) -/

/-- R74: the check of the holdover count. -/
theorem Device.checkSyncLost_eq (p : Device) :
    p.checkSyncLost =
      { p with
        clock := { p.clock with
          syncLost := p.clock.syncLost || decide (p.clock.settings.holdoverLimit ≤ p.clock.holdover) }
        alerts := { p.alerts with flags := { p.alerts.flags with
          sync := p.alerts.flags.sync
            || (decide (p.clock.settings.holdoverLimit ≤ p.clock.holdover) && !p.clock.syncLost) } } } := by
  unfold Device.checkSyncLost
  split
  · rename_i h
    obtain ⟨limit, clear⟩ := h
    simp [limit, clear, Device.withClock, Device.setSyncFlag]
  · rename_i h
    have kept : p.clock.settings.holdoverLimit ≤ p.clock.holdover → p.clock.syncLost = true := by simpa using h
    have lost :
        (p.clock.syncLost || decide (p.clock.settings.holdoverLimit ≤ p.clock.holdover)) = p.clock.syncLost := by
      simpa using kept
    have sync : (decide (p.clock.settings.holdoverLimit ≤ p.clock.holdover) && !p.clock.syncLost) = false := by
      simpa using kept
    rw [lost, sync, Bool.or_false]

section
variable {s : State} {r : Moment} (ref : s.device.clock.ref = some r)
include ref

theorem exec_syncTimerExpiry (lock : s.device.clock.lock = .locked) :
    exec .syncTimerExpiry s = .next (s.withDevice
      (s.device.passTo (r + (s.device.clock.runPeriod + s.device.clock.runGrace) * 4096)).enterHoldover) := by
  show execSyncTimerExpiry s = _
  simp only [execSyncTimerExpiry, State.run_eq, lock, ref]
  rfl

theorem exec_holdoverTick (lock : s.device.clock.lock = .holdover) :
    exec .holdoverTick s = .next (s.withDevice
      (s.device.passTo (r + s.device.clock.runPeriod * 4096)).holdoverTick) := by
  show execHoldoverTick s = _
  simp only [execHoldoverTick, State.run_eq, lock, ref]
  rfl

theorem exec_freeTick (lock : s.device.clock.lock = .free) :
    exec .freeTick s = .next (s.withDevice (s.device.passTo (r + s.device.clock.runPeriod * 4096)).freeTick) := by
  show execFreeTick s = _
  simp only [execFreeTick, State.run_eq, lock, ref]
  rfl

end

/-- Settles O17: each row takes time to its expiry and begins an interval; the check of the holdover count is
R74's. -/
theorem internalTicksByLockState : Obligations.InternalTicksByLockState := by
  intro s r ref
  refine ⟨fun lock => ?_, fun lock => ?_, fun lock => ?_⟩
  · rw [exec_syncTimerExpiry ref lock, Device.enterHoldover, Device.checkSyncLost_eq]
    simp [EpochClock.begin, Device.passTo_clock, Device.withClock, Device.setSyncFlag]
  · rw [exec_holdoverTick ref lock, Device.holdoverTick, Device.checkSyncLost_eq]
    simp [EpochClock.begin, Device.passTo_clock, Device.withClock, countUp]
  · rw [exec_freeTick ref lock, Device.freeTick, Device.withClock, Device.passTo_clock]
    rfl

/-! ### A pulse and the clock's timer at one moment (O18) -/

/-- R75: a tick moves the epoch number alone of the clock, and sets and clears no SYNC flag. -/
@[simp] theorem Device.tick_clock (p : Device) : p.tick.clock = { p.clock with epoch := p.clock.epoch + 1#16 } := by
  obtain ⟨-, clock, -⟩ := p.tick_kept
  exact clock

@[simp] theorem Device.tick_now (p : Device) : p.tick.now = p.now := by
  obtain ⟨-, -, -, -, -, -, now, -⟩ := p.tick_kept
  exact now

@[simp] theorem Device.tick_syncFlag (p : Device) : p.tick.alerts.flags.sync = p.alerts.flags.sync := by
  obtain ⟨-, -, -, -, -, -, -, -, -, ⟨-, -, sync⟩, -⟩ := p.tick_kept
  exact sync

/-- R72, R74: the clock has entered HOLDOVER, or stayed in it, by a tick now. -/
structure Device.InternallyTicked (p q : Device) : Prop where
  epoch : q.clock.epoch = p.clock.epoch + 1#16
  lock : q.clock.lock = .holdover
  ref : q.clock.ref = some q.now
  now : q.now = p.now

section
variable (p : Device)

theorem Device.enterHoldover_ticked :
    p.InternallyTicked p.enterHoldover ∧ p.enterHoldover.alerts.flags.sync = true := by
  rw [Device.enterHoldover, Device.checkSyncLost_eq]
  exact ⟨⟨by simp [EpochClock.begin], by simp, by simp [EpochClock.begin], by simp⟩, by simp⟩

theorem Device.holdoverTick_ticked (lock : p.clock.lock = .holdover) : p.InternallyTicked p.holdoverTick := by
  rw [Device.holdoverTick, Device.checkSyncLost_eq]
  exact ⟨by simp [EpochClock.begin], by simp [EpochClock.begin, lock], by simp [EpochClock.begin], by simp⟩

end

/-- R73: a pulse at the moment of an internal tick relocks the clock and makes no second tick. -/
theorem Device.InternallyTicked.pulse {p q : Device} (h : p.InternallyTicked q) :
    q.syncPulse = q.withClock fun c => c.relock q.now :=
  Device.syncPulse_holdover_just_ticked h.lock h.ref (by simp)

/-- R72, R73: a pulse in the queue behind a timer's row of its own moment. -/
theorem Device.InternallyTicked.exec_pulse {s : State} {p q : Device} {moment : Moment} (h : p.InternallyTicked q)
    (now : p.now = moment) :
    exec (.syncPulse moment) (s.withDevice q) = .next (s.withDevice (q.withClock fun c => c.relock moment)) := by
  have here : q.passTo moment = q := Device.passTo_of_le (h.now.trans now).ge
  have pulsed := h.pulse
  rw [h.now, now] at pulsed
  exact exec_syncPulse (s := s.withDevice q) ((congrArg Device.syncPulse here).trans pulsed)

/-- Settles O18: before the timer the pulse ticks and the timer starts anew; behind it the pulse finds the interval
just begun. -/
theorem pulseAndTimerInEitherOrderMakeOneTick : Obligations.PulseAndTimerInEitherOrderMakeOneTick := by
  intro s r lawful ref
  obtain ⟨-, ⟨-, some_grace, half⟩, -⟩ := lawful
  have clock := s.device.passTo_clock
  have now : ∀ moment, s.device.now ≤ moment → (s.device.passTo moment).now = moment := fun moment ahead =>
    (s.device.passTo_now moment).trans (Nat.max_eq_right ahead)
  refine ⟨fun moment lock due ahead => ⟨?_, ?_⟩, fun moment lock due ahead => ⟨?_, ?_⟩⟩
  · have delay : (s.device.passTo moment).now - r = (s.device.clock.runPeriod + s.device.clock.runGrace) * 4096 := by
      rw [now moment ahead, due, Nat.add_sub_cancel_left]
    have pulsed := Device.syncPulse_locked_on_time (p := s.device.passTo moment) (r := r) (by rw [clock, lock])
      (by rw [clock, ref]) (by rw [clock, delay]; omega) (by rw [clock, delay])
    exact ⟨_, exec_syncPulse pulsed, by simp [EpochClock.begin, clock, lock, now moment ahead]⟩
  · obtain ⟨ticked, sync⟩ := (s.device.passTo moment).enterHoldover_ticked
    subst due
    exact ⟨_, _, exec_syncTimerExpiry ref lock, ticked.exec_pulse (now _ ahead),
      ⟨by simp [EpochClock.relock, EpochClock.begin, ticked.epoch, clock], rfl, rfl⟩, sync⟩
  · have delay : (s.device.passTo moment).now - r = s.device.clock.runPeriod * 4096 := by
      rw [now moment ahead, due, Nat.add_sub_cancel_left]
    have pulsed := Device.syncPulse_holdover_on_time (p := s.device.passTo moment) (r := r) (by rw [clock, lock])
      (by rw [clock, ref]) (by rw [clock, delay]; omega) (by rw [clock, delay]; omega) (by rw [clock, delay])
    exact ⟨_, exec_syncPulse pulsed, by simp [EpochClock.relock, EpochClock.begin, clock, now moment ahead]⟩
  · have ticked := (s.device.passTo moment).holdoverTick_ticked (by rw [clock, lock])
    subst due
    exact ⟨_, _, exec_holdoverTick ref lock, ticked.exec_pulse (now _ ahead),
      by simp [EpochClock.relock, EpochClock.begin, ticked.epoch, clock], rfl, rfl⟩

/-! ### The epoch number through every row that is no tick (O19) -/

theorem Device.KeptByWork.clock {p q : Device} (h : p.KeptByWork q) : q.clock = p.clock := by
  obtain ⟨-, clock, -⟩ := h
  exact clock

theorem Device.SameButTrip.clock {p q : Device} (h : p.SameButTrip q) : q.clock = p.clock := h.kept.clock

@[simp] theorem Device.finishWork_clock (p : Device) : p.finishWork.clock = p.clock := (p.finishWork_kept).1.clock

/-- The rows that write the clock: ticks, SET EPOCH CLOCK and SET EPOCH NUMBER, and the resets. -/
def movesClock : Instr → Prop
  | .powerOnReset _ => True
  | .rstNReset _ => True
  | .syncPulse _ => True
  | .syncTimerExpiry => True
  | .holdoverTick => True
  | .freeTick => True
  | .setEpochClock .. => True
  | .setEpochNumber _ => True
  | _ => False

section
variable (p : Device)

/-- R79: a report. -/
theorem Device.storeReport_clock (e : Half) (rep : StoredReport) : (p.storeReport e rep).clock = p.clock := by
  unfold Device.storeReport Device.takeReport
  repeat' split
  all_goals exact p.finishWork_clock

theorem Device.sight_clock (a : Addr) (e : Half) (s : PhaseSet) : (p.sight a e s).clock = p.clock := by
  unfold Device.sight
  dsimp only
  repeat' split
  all_goals rfl

theorem Device.checkFrame_clock (len : Byte) (body : List Byte) (crc : Half) :
    (p.checkFrame len body crc).clock = p.clock := by
  unfold Device.checkFrame
  repeat' split
  case h_1.isTrue => exact p.sight_clock _ _ _
  case h_2.isFalse => exact p.storeReport_clock _ _
  all_goals rfl

/-- R52, R54 to R62: a character. -/
theorem Device.characterReceived_clock (stop : Bool) (b : Byte) : (p.characterReceived stop b).clock = p.clock := by
  have received : ∀ q : Device, (q.rxByte b).clock = q.clock := fun q => by
    unfold Device.rxByte Device.lengthByte
    repeat' split
    case h_6 => exact Device.checkFrame_clock _ _ _ _
    all_goals rfl
  have failed : ∀ q : Device, q.framingError.clock = q.clock := fun q => by
    unfold Device.framingError
    split <;> rfl
  unfold Device.characterReceived
  dsimp only
  repeat' split
  · exact received _
  · exact failed _
  · rfl

/-- R57: the gap timer. -/
theorem Device.gapExpire_clock : p.gapExpire.clock = p.clock := by
  unfold Device.gapExpire
  split <;> rfl

theorem Device.startBit_clock : p.startBit.clock = p.clock := by
  unfold Device.startBit
  repeat' split
  · exact p.gapExpire_clock
  · rfl
  · rfl

theorem Device.gapTimerExpiry_clock : p.gapTimerExpiry.clock = p.clock := by
  unfold Device.gapTimerExpiry
  split
  · exact (Device.gapExpire_clock _).trans (p.passTo_clock _)
  · rfl

/-- R81: a deadline. -/
theorem Device.slotDeadline_clock (e : Half) : (p.slotDeadline e).clock = p.clock := by
  unfold Device.slotDeadline
  dsimp only
  split
  · exact (Device.passTo_clock _ _).trans p.finishWork_clock
  · rfl

/-! Breakers (R133, R146, R147) -/

theorem Device.tripTimeout_clock (z : ZoneIx) : (p.tripTimeout z).clock = p.clock := by
  unfold Device.tripTimeout
  split
  · exact (Device.timeout_sameButTrip _ z).clock.trans (p.passTo_clock _)
  · rfl

theorem Device.debounceExpiry_clock (z : ZoneIx) : (p.debounceExpiry z).clock = p.clock := by
  unfold Device.debounceExpiry
  split
  · exact (Device.becomeStable_sameButTrip _ z _).clock.trans (p.passTo_clock _)
  · rfl

theorem Device.brkLevelChange_clock (t : Moment) (z : ZoneIx) (high : Bool) :
    (p.brkLevelChange t z high).clock = p.clock := by
  have timer : ∀ t, (p.timerUpTo z t).clock = p.clock := fun t => by
    unfold Device.timerUpTo
    repeat' split
    · exact p.tripTimeout_clock z
    all_goals rfl
  have interval : ∀ (q : Device) t, (q.intervalUpTo z t).clock = q.clock := fun q t => by
    unfold Device.intervalUpTo
    repeat' split
    · exact q.debounceExpiry_clock z
    all_goals rfl
  unfold Device.brkLevelChange
  split
  · exact p.passTo_clock t
  · rw [(Device.changeLevel_sameButTrip _ z high).clock, Device.passTo_clock, interval, timer]

/-! The port (R168 to R179) -/

theorem Device.accessByte_clock (b : Byte) : (p.accessByte b).clock = p.clock := by
  unfold Device.accessByte
  split
  · dsimp only
    split <;> rfl
  · rfl

theorem Device.transactionStart_clock : p.transactionStart.clock = p.clock := by
  unfold Device.transactionStart
  split <;> rfl

/-- The bytes of a transaction after the access byte, and its end. -/
theorem Device.portRows_clock :
    (∀ b, (p.codeByte b).clock = p.clock) ∧ (∀ b, (p.parameterByte b).clock = p.clock)
      ∧ (∀ b, (p.overrunByte b).clock = p.clock) ∧ p.resultByteRead.clock = p.clock
      ∧ p.statusByteRead.clock = p.clock ∧ p.transactionEnd.clock = p.clock := by
  unfold Device.codeByte Device.parameterByte Device.overrunByte Device.resultByteRead Device.statusByteRead
    Device.transactionEnd
  refine ⟨fun b => ?_, fun b => ?_, fun b => ?_, ?_, ?_, ?_⟩
  all_goals repeat' split
  all_goals rfl

/-! Host commands -/

/-- Commands that write a setting or an alert flag, or take an outcome. -/
theorem Device.settings_clock :
    (∀ b, (p.setLinkRate b).1.clock = p.clock) ∧ (∀ b, (p.setFeederId b).1.clock = p.clock)
      ∧ (∀ b sent, (p.loadProfile b sent).1.clock = p.clock) ∧ (∀ b, (p.clearStranger b).1.clock = p.clock)
      ∧ (∀ b, (p.clearAlerts b).1.clock = p.clock) ∧ (∀ b, (p.setAlertEnable b).1.clock = p.clock)
      ∧ (∀ z b, (p.holdPermit z b).1.clock = p.clock) ∧ p.senseOutcome.1.clock = p.clock := by
  unfold Device.setLinkRate Device.setFeederId Device.loadProfile Device.clearStranger Device.clearAlerts
    Device.setAlertEnable Device.holdPermit Device.senseOutcome
  refine ⟨fun b => ?_, fun b => ?_, fun b sent => ?_, fun b => ?_, fun b => ?_, fun b => ?_, fun z b => ?_, ?_⟩
  all_goals repeat' split
  all_goals rfl

/-- Commands that read. -/
theorem Device.reads_clock :
    (∀ b, (p.readProfile b).1.clock = p.clock) ∧ (∀ b, (p.readNode b).1.clock = p.clock)
      ∧ (∀ b, (p.readSection b).1.clock = p.clock) ∧ (∀ b, (p.readZone b).1.clock = p.clock)
      ∧ ∀ b f c k, (p.scanSections b f c k).1.clock = p.clock := by
  unfold Device.readProfile Device.readNode Device.readSection Device.readZone Device.scanSections
  refine ⟨fun b => ?_, fun b => ?_, fun b => ?_, fun b => ?_, fun b f c k => ?_⟩
  all_goals repeat' split
  all_goals rfl

/-- R86. -/
theorem Device.restartEvaluation_clock : p.restartEvaluation.1.clock = p.clock := by
  unfold Device.restartEvaluation Device.restart
  split <;> exact p.finishWork_clock

theorem Device.bindNode_clock (node : Byte) (addr : Addr) (phs : Byte) :
    (p.bindNode node addr phs).1.clock = p.clock := by
  rcases p.bindNode_cases node addr phs with e | ⟨n, s, -, -, -, e⟩ <;> rw [e]
  rfl

theorem Device.unbindNode_clock (node : Byte) : (p.unbindNode node).1.clock = p.clock := by
  unfold Device.unbindNode
  rcases p.finishWork.unbind_cases node with e | ⟨n, -, e⟩ <;> rw [e] <;> exact p.finishWork_clock

theorem Device.createSection_clock (sec up zone phs prof : Byte) :
    (p.createSection sec up zone phs prof).1.clock = p.clock := by
  rcases p.createSection_cases sec up zone phs prof with e | ⟨i, u, z, s, pr, -, -, e⟩ <;> rw [e]
  rfl

theorem Device.editSection_clock (sec n1 n2 n3 n4 : Byte) (ta tb tc : Half) :
    (p.editSection sec n1 n2 n3 n4 ta tb tc).1.clock = p.clock := by
  rcases p.editSection_cases sec n1 n2 n3 n4 ta tb tc with e | ⟨i, new, -, -, -, e⟩ <;> rw [e]
  rfl

theorem Device.commitSection_clock (sec : Byte) : (p.commitSection sec).1.clock = p.clock := by
  rcases p.commitSection_cases sec with e | ⟨i, -, e⟩ <;> rw [e]
  exact (p.place_sameButTrip i _).clock

theorem Device.recallSection_clock (sec : Byte) : (p.recallSection sec).1.clock = p.clock := by
  rcases p.recallSection_cases sec with e | ⟨i, -, e⟩ <;> rw [e]
  rfl

theorem Device.tuneSection_clock (sec profile : Byte) (ta tb tc : Half) :
    (p.tuneSection sec profile ta tb tc).1.clock = p.clock := by
  rcases p.tuneSection_cases sec profile ta tb tc with e | ⟨i, pr, -, e⟩ <;> rw [e]
  rfl

theorem Device.acknowledgeSection_clock (sec : Byte) : (p.acknowledgeSection sec).1.clock = p.clock := by
  rcases p.acknowledgeSection_cases sec with e | ⟨i, -, -, e⟩ <;> rw [e]
  exact (p.place_sameButTrip i _).clock

theorem Device.retireSection_clock (sec : Byte) : (p.retireSection sec).1.clock = p.clock := by
  rcases p.retireSection_cases sec with e | ⟨i, -, -, e⟩ <;> rw [e]
  rfl

theorem Device.setZoneCommand_clock (zone hz te ee : Byte) (tmo : Half) (db pol : Byte) :
    (p.setZoneCommand zone hz te ee tmo db pol).1.clock = p.clock := by
  rcases p.setZoneCommand_cases zone hz te ee tmo db pol with e | ⟨z, c, e⟩ <;> rw [e]
  exact (p.applyZone_sameButTrip z c).clock

theorem Device.tripZone_clock (zone : Byte) : (p.tripZone zone).1.clock = p.clock := by
  rcases p.tripZone_cases zone with e | ⟨z, ⟨-, -, e⟩ | ⟨-, -, e⟩ | ⟨-, e⟩⟩ <;> rw [e] <;> rfl

theorem Device.releaseTrip_clock (zone : Byte) : (p.releaseTrip zone).1.clock = p.clock := by
  rcases p.releaseTrip_cases zone with e | ⟨z, -, e⟩ <;> rw [e]
  rfl

/-- R69, R70: SET EPOCH CLOCK leaves the epoch number. -/
theorem Device.setEpochClock_epoch (src per gr : Byte) (lim win : Half) (miss : Byte) :
    (p.setEpochClock src per gr lim win miss).1.clock.epoch = p.clock.epoch := by
  unfold Device.setEpochClock
  split
  · rfl
  · dsimp only [Device.accept_fst, Device.withClock_clock]
    unfold EpochClock.apply
    dsimp only
    repeat' split
    all_goals rfl

end

/-- Every row that does not write the clock leaves it as it stands. -/
theorem exec_clock {s t : State} {c : Instr} (h : exec c s = .next t) (hc : ¬ movesClock c) :
    t.device.clock = s.device.clock := by
  have answered : ∀ a : Answer, a.1.clock = s.device.clock → (s.answered a.1 a.2).device.clock = s.device.clock :=
    fun a k => by rw [State.answered_clock, k]
  obtain ⟨code, parameter, overrun, result, status, ended⟩ := s.device.portRows_clock
  obtain ⟨rate, feeder, profile, stranger, alerts, enables, hold, outcome⟩ := s.device.settings_clock
  obtain ⟨readProfile, readNode, readSection, readZone, scan⟩ := s.device.reads_clock
  cases c with
  | powerOnReset | rstNReset | syncPulse | syncTimerExpiry | holdoverTick | freeTick | setEpochClock
  | setEpochNumber => exact absurd trivial hc
  | characterReceived m stop b =>
    cases h; exact (Device.characterReceived_clock _ stop b).trans (s.device.passTo_clock m)
  | startBit m => cases h; exact (Device.startBit_clock _).trans (s.device.passTo_clock m)
  | gapTimerExpiry => cases h; exact s.device.gapTimerExpiry_clock
  | slotDeadline e => cases h; exact s.device.slotDeadline_clock e
  | brkLevelChange m z high =>
    cases h; dsimp only; split
    · exact s.device.brkLevelChange_clock m _ high
    · rfl
  | debounceExpiry z =>
    cases h; dsimp only; split
    · exact s.device.debounceExpiry_clock _
    · rfl
  | tripTimeout z =>
    cases h; dsimp only; split
    · exact s.device.tripTimeout_clock _
    · rfl
  | transactionStart m => cases h; exact (Device.transactionStart_clock _).trans (s.device.passTo_clock m)
  | accessByte b => cases h; exact s.device.accessByte_clock b
  | codeByte b => cases h; exact code b
  | parameterByte b => cases h; exact parameter b
  | overrunByte b => cases h; exact overrun b
  | resultByteRead => cases h; exact result
  | statusByteRead => cases h; exact status
  | transactionEnd => cases h; exact ended
  | setLinkRate b => cases h; exact answered _ (rate b)
  | setJoinFilter value mask => cases h; exact answered (s.device.setJoinFilter value mask) rfl
  | setFeederId b => cases h; exact answered _ (feeder b)
  | readLinkCounters => cases h; exact answered s.device.readLinkCounters rfl
  | readEpochClock | readStrangers | readDevice => cases h; exact answered (s.device, _) rfl
  | loadProfile => cases h; exact answered _ (profile _ _)
  | clearStranger b => cases h; exact answered _ (stranger b)
  | clearAlerts b => cases h; exact answered _ (alerts b)
  | setAlertEnable b => cases h; exact answered _ (enables b)
  | holdPermit z b => cases h; exact answered _ (hold z b)
  | senseOutcome => cases h; exact answered _ outcome
  | readProfile b => cases h; exact answered _ (readProfile b)
  | readNode b => cases h; exact answered _ (readNode b)
  | readSection b => cases h; exact answered _ (readSection b)
  | readZone b => cases h; exact answered _ (readZone b)
  | scanSections b f c k => cases h; exact answered _ (scan b f c k)
  | restartEvaluation => cases h; exact answered _ s.device.restartEvaluation_clock
  | bindNode => cases h; exact answered _ (s.device.bindNode_clock _ _ _)
  | unbindNode => cases h; exact answered _ (s.device.unbindNode_clock _)
  | createSection => cases h; exact answered _ (s.device.createSection_clock _ _ _ _ _)
  | editSection => cases h; exact answered _ (s.device.editSection_clock _ _ _ _ _ _ _ _)
  | commitSection => cases h; exact answered _ (s.device.commitSection_clock _)
  | recallSection => cases h; exact answered _ (s.device.recallSection_clock _)
  | tuneSection => cases h; exact answered _ (s.device.tuneSection_clock _ _ _ _ _)
  | acknowledgeSection => cases h; exact answered _ (s.device.acknowledgeSection_clock _)
  | retireSection => cases h; exact answered _ (s.device.retireSection_clock _)
  | setZone => cases h; exact answered _ (s.device.setZoneCommand_clock _ _ _ _ _ _ _)
  | tripZone => cases h; exact answered _ (s.device.tripZone_clock _)
  | releaseTrip => cases h; exact answered _ (s.device.releaseTrip_clock _)

/-! ### Ticks (O19) -/

/-- R75: the epoch number stands, or rises by one. -/
def Device.EpochSteps (p q : Device) : Prop :=
  q.clock.epoch = p.clock.epoch ∨ q.clock.epoch = p.clock.epoch + 1#16

section
variable {p q : Device}

theorem Device.EpochSteps.of_eq (h : q.clock.epoch = p.clock.epoch) : p.EpochSteps q := .inl h

theorem Device.EpochSteps.tick (h : q.clock.epoch = p.clock.epoch) : p.EpochSteps q.tick :=
  .inr (by rw [Device.tick_clock, ← h])

/-- Time passes, and then the clock moves. -/
theorem Device.EpochSteps.passed {m : Moment} (h : (p.passTo m).EpochSteps q) : p.EpochSteps q := by
  rwa [Device.EpochSteps, Device.passTo_clock] at h

end

section
variable (p : Device)

theorem Device.pulseLocked_epoch (δ : Nat) : p.EpochSteps (p.pulseLocked δ) := by
  unfold Device.pulseLocked
  repeat' split
  · exact .of_eq rfl
  · exact .tick rfl
  · exact .of_eq rfl

theorem Device.pulseHoldover_epoch (δ : Nat) : p.EpochSteps (p.pulseHoldover δ) := by
  unfold Device.pulseHoldover
  repeat' split
  · exact .of_eq rfl
  · exact .of_eq rfl
  · exact .tick rfl
  · exact .of_eq rfl

/-- R71 to R73, R75: a pulse ticks once, or not at all. -/
theorem Device.syncPulse_epoch : p.EpochSteps p.syncPulse := by
  unfold Device.syncPulse
  split
  · exact .tick rfl
  · exact p.pulseLocked_epoch _
  · exact p.pulseHoldover_epoch _
  all_goals exact .of_eq rfl

theorem Device.enterHoldover_epoch : p.EpochSteps p.enterHoldover := by
  rw [Device.enterHoldover, Device.checkSyncLost_eq]
  exact .tick rfl

theorem Device.holdoverTick_epoch : p.EpochSteps p.holdoverTick := by
  rw [Device.holdoverTick, Device.checkSyncLost_eq]
  exact .tick rfl

theorem Device.freeTick_epoch : p.EpochSteps p.freeTick :=
  .tick (q := p.withClock fun c => c.begin p.now) rfl

end

/-- Settles O19: of the rows that write the clock only the four ticks and SET EPOCH NUMBER write its number. -/
theorem epochNumberChangesOnlyAtTicks : Obligations.EpochNumberChangesOnlyAtTicks := by
  intro s t c h hr hn
  by_cases moves : movesClock c
  · cases c with
    | powerOnReset | rstNReset => exact absurd trivial hr
    | setEpochNumber n => exact absurd rfl (hn n)
    | setEpochClock =>
      cases h
      refine .inl ((congrArg EpochClock.epoch (State.answered_clock s _ _)).trans ?_)
      exact s.device.setEpochClock_epoch _ _ _ _ _ _
    | syncPulse m =>
      cases h
      exact (Device.EpochSteps.passed (Device.syncPulse_epoch _)).imp_right fun e => ⟨.inl ⟨m, rfl⟩, e⟩
    | syncTimerExpiry =>
      cases h
      dsimp only
      split
      · exact (Device.EpochSteps.passed (Device.enterHoldover_epoch _)).imp_right fun e => ⟨by simp, e⟩
      · exact .inl rfl
    | holdoverTick =>
      cases h
      dsimp only
      split
      · exact (Device.EpochSteps.passed (Device.holdoverTick_epoch _)).imp_right fun e => ⟨by simp, e⟩
      · exact .inl rfl
    | freeTick =>
      cases h
      dsimp only
      split
      · exact (Device.EpochSteps.passed (Device.freeTick_epoch _)).imp_right fun e => ⟨by simp, e⟩
      · exact .inl rfl
    | _ => exact absurd moves id
  · exact .inl (by rw [exec_clock h moves])

end Sys2Proof.Machine

/-! ## The assembly slots: reports and deadlines (O21, O22) -/

namespace Sys2Proof.Machine

/-! ### The slot of an epoch -/

/-- R77: no two open slots hold one epoch. -/
theorem Device.SlotsStand.epochs_nodup {p : Device} {e : Half} {l : List Slot} (h : p.SlotsStand e l) :
    (l.map Slot.epoch).Nodup := by
  have size := h.size
  refine List.nodup_iff_injective_getElem.mpr fun j k same => ?_
  obtain ⟨j, hj⟩ := j
  obtain ⟨k, hk⟩ := k
  simp only [List.length_map] at hj hk
  simp only [List.getElem_map, h.epochs j hj, h.epochs k hk, BitVec.sub_right_inj] at same
  have places := congrArg BitVec.toNat same
  rw [BitVec.toNat_ofNat, BitVec.toNat_ofNat, Nat.mod_eq_of_lt (by omega), Nat.mod_eq_of_lt (by omega)] at places
  exact Fin.ext (by simp only; omega)

section
variable {p : Device} {older newer : List Slot} {x : Slot} {e : Half} (stand : p.SlotsStand e p.slots)
  (hs : p.slots = older ++ x :: newer)
include stand hs

/-- R77: the other open slots hold other epochs. -/
theorem Device.SlotsStand.epoch_ne : (∀ y ∈ older, y.epoch ≠ x.epoch) ∧ ∀ y ∈ newer, y.epoch ≠ x.epoch := by
  have nodup := stand.epochs_nodup
  rw [hs, List.map_append, List.map_cons, List.nodup_append, List.nodup_cons] at nodup
  obtain ⟨-, ⟨behind, -⟩, before⟩ := nodup
  exact ⟨fun y hy => before _ (List.mem_map_of_mem hy) _ (by simp),
    fun y hy same => behind (same ▸ List.mem_map_of_mem hy)⟩

/-- R79, R81: an open slot is found by its epoch. -/
theorem Device.slotOf_eq : p.slotOf x.epoch = some older.length := by
  obtain ⟨before, -⟩ := stand.epoch_ne hs
  have skipped : older.findIdx? (fun y => y.epoch == x.epoch) = none := by
    simpa [List.findIdx?_eq_none_iff] using before
  simp [Device.slotOf, hs, skipped, List.findIdx?_cons]

/-- R79: a node has arrived in the slot of an epoch. -/
theorem Device.arrivedIn_iff (n : NodeIx) :
    (p.slots.any fun y => y.epoch == x.epoch && decide (n ∈ y.arrived)) = true ↔ n ∈ x.arrived := by
  obtain ⟨before, behind⟩ := stand.epoch_ne hs
  rw [List.any_eq_true]
  refine ⟨fun ⟨y, hy, found⟩ => ?_, fun arrived => ⟨x, by simp [hs], by simp [arrived]⟩⟩
  obtain ⟨same, arrived⟩ : y.epoch = x.epoch ∧ n ∈ y.arrived := by simpa using found
  rw [hs, List.mem_append, List.mem_cons] at hy
  rcases hy with hy | rfl | hy
  · exact absurd same (before y hy)
  · exact arrived
  · exact absurd same (behind y hy)

end

theorem modify_append_cons {α : Type} (f : α → α) (l : List α) (a : α) (l' : List α) :
    (l ++ a :: l').modify l.length f = l ++ f a :: l' := by
  induction l with
  | nil => rfl
  | cons b l ih => simp [ih]

/-! ### An admitted report (O21) -/

section
variable {p : Device} {e : Half} {rep : StoredReport}

/-- R79: an epoch ahead of the current one. -/
theorem Device.takeReport_early (early : 32768 ≤ (p.clock.epoch - e).toNat) :
    p.takeReport e rep = p.withCounters LinkCounters.countEarly := if_pos early

section
variable (past : (p.clock.epoch - e).toNat < 32768)
include past

/-- R79: no open slot of the epoch. -/
theorem Device.takeReport_late (unopened : ∀ y ∈ p.slots, y.epoch ≠ e) :
    p.takeReport e rep = p.withCounters LinkCounters.countLate := by
  have unopened : p.slotOf e = none := by simpa [Device.slotOf, List.findIdx?_eq_none_iff] using unopened
  simp only [Device.takeReport, Nat.not_le.mpr past, unopened, if_false]

variable {older newer : List Slot} {x : Slot} {now : Half} (stand : p.SlotsStand now p.slots)
  (hs : p.slots = older ++ x :: newer) (he : x.epoch = e)
include stand hs he

/-- R79: a second report of the node. -/
theorem Device.takeReport_duplicate (arrived : rep.node ∈ x.arrived) :
    p.takeReport e rep = p.withCounters LinkCounters.countDuplicate := by
  subst he
  have found := (Device.arrivedIn_iff stand hs rep.node).mpr arrived
  simp only [Device.takeReport, Nat.not_le.mpr past, Device.slotOf_eq stand hs, found, if_true, if_false]

/-- R79, R80: the report joins the slot. -/
theorem Device.takeReport_new (new : rep.node ∉ x.arrived) :
    p.takeReport e rep = Device.cascade { p with slots := older ++ Slot.store rep x :: newer } := by
  subst he
  have absent := eq_false_of_ne_true (mt (Device.arrivedIn_iff stand hs rep.node).mp new)
  simp only [Device.takeReport, Nat.not_le.mpr past, Device.slotOf_eq stand hs, absent, if_false, Bool.false_eq_true]
  rw [hs, modify_append_cons]

end

end

/-- R81, R82: nothing closes while the oldest open slot is GATHERING. -/
theorem Device.cascade_of_gathers {p : Device} (h : oldestGathers p.slots) : p.cascade = p := by
  obtain ⟨taken, dropped⟩ : p.slots.takeWhile Slot.complete = [] ∧ p.slots.dropWhile Slot.complete = p.slots := by
    cases hs : p.slots with
    | nil => simp
    | cons y l => simp [h y (by simp [hs])]
  simp [Device.cascade, Device.closeOldest, taken, dropped]

/-- R81, R82: the COMPLETE slots that are oldest close. -/
theorem Device.cascade_append {p : Device} {closing kept : List Slot} (hs : p.slots = closing ++ kept)
    (idle : p.held.closes = []) (hc : ∀ y ∈ closing, y.complete = true) (hk : oldestGathers kept) :
    p.cascade = { p with slots := kept, held := { p.held with closes := closing.map Slot.toClose } } := by
  rw [Device.cascade_eq idle, hs, takeWhile_complete_append hc hk, dropWhile_complete_append hc hk]

/-- R80: a report joins a slot, which is then COMPLETE or was so before. -/
theorem Slot.store_eq (rep : StoredReport) (s : Slot) :
    Slot.store rep s = { s with
      reports := s.reports ++ [rep]
      complete := s.complete || Slot.full { s with reports := s.reports ++ [rep] } } := rfl

/-- R80: a slot that a report does not fill was not full before it. -/
theorem Slot.store_unfilled {rep : StoredReport} {s : Slot} (lawful : s.complete = s.full)
    (unfilled : ¬ s.expected ⊆ Slot.arrived { s with reports := s.reports ++ [rep] }) :
    s.complete = false ∧ Slot.store rep s = { s with reports := s.reports ++ [rep] } := by
  have after : Slot.full { s with reports := s.reports ++ [rep] } = false :=
    eq_false_of_ne_true (mt (Slot.full_iff _).mp unfilled)
  have before : s.complete = false := by
    rw [lawful]
    refine eq_false_of_ne_true fun full => unfilled fun n expected => ?_
    have arrived := (Slot.full_iff s).mp full n expected
    simp only [Slot.arrived, List.map_append, List.mem_append] at arrived ⊢
    exact .inl arrived
  exact ⟨before, by rw [Slot.store_eq, after, Bool.or_false]⟩

/-- R80: a slot that a report fills is COMPLETE. -/
theorem Slot.store_filled {rep : StoredReport} {s : Slot}
    (filled : s.expected ⊆ Slot.arrived { s with reports := s.reports ++ [rep] }) :
    Slot.store rep s = { s with reports := s.reports ++ [rep], complete := true } := by
  have full : Slot.full { s with reports := s.reports ++ [rep] } = true :=
    (Slot.full_iff _).mpr fun _ hn => filled hn
  rw [Slot.store_eq, full, Bool.or_true]

theorem oldestGathers_append_cons {older newer : List Slot} {x y : Slot} (h : oldestGathers (older ++ x :: newer))
    (hy : older = [] → y.complete = false) : oldestGathers (older ++ y :: newer) := by
  cases older with
  | nil => rintro z ⟨rfl⟩; exact hy rfl
  | cons z l => exact h

/-- Settles O21: the report is EARLY, LATE or DUPLICATE, or joins its slot; only the oldest slot, made COMPLETE by
it, closes. -/
theorem admittedReportIsStoredByFirstCase : Obligations.AdmittedReportIsStoredByFirstCase := by
  intro p e rep
  refine ⟨by rw [Device.storeReport, Device.storeReport, Device.finishWork_twice], fun idle lawful => ?_⟩
  obtain ⟨stand, head, -⟩ := p.slotsLawful_iff.mp lawful
  have taken : p.storeReport e rep = p.takeReport e rep := by
    rw [Device.storeReport, Device.finishWork_of_idle (by simp [HeldWork.inHand, idle])]
  rw [taken]
  refine ⟨fun early => Device.takeReport_early early, fun past unopened => Device.takeReport_late past unopened,
    fun older x newer hs he past =>
      ⟨fun arrived => Device.takeReport_duplicate past stand hs he arrived, fun new => ?_⟩⟩
  rw [Device.takeReport_new past stand hs he new]
  rw [hs] at head
  refine ⟨fun unfilled => ?_, fun filled behind => ?_, fun filled oldest complete kept hn hc hk => ?_⟩
  · obtain ⟨gathering, stored⟩ := Slot.store_unfilled (stand.slots x (by simp [hs])).complete unfilled
    rw [stored]
    exact Device.cascade_of_gathers (oldestGathers_append_cons head fun _ => gathering)
  · rw [Slot.store_filled filled]
    exact Device.cascade_of_gathers (oldestGathers_append_cons head fun none_older => absurd none_older behind)
  · rw [Slot.store_filled filled]
    subst oldest hn
    exact Device.cascade_append (p := { p with slots := _ })
      (closing := { x with reports := x.reports ++ [rep], complete := true } :: complete) rfl idle
      (List.forall_mem_cons.mpr ⟨rfl, hc⟩) hk

/-! ### A deadline (O22) -/

/-- R81, R82: the slots up to `x` close, and the COMPLETE slots then oldest with them. -/
theorem Device.closeThrough_eq {p : Device} {older complete kept : List Slot} {x : Slot}
    (hs : p.slots = older ++ x :: (complete ++ kept)) (idle : p.held.closes = [])
    (hc : ∀ y ∈ complete, y.complete = true) (hk : oldestGathers kept) :
    p.closeThrough older.length = { p with
      slots := kept
      held := { p.held with closes := (older ++ x :: complete).map Slot.toClose } } := by
  have shape : older ++ x :: (complete ++ kept) = (older ++ [x]) ++ (complete ++ kept) := by simp
  have size : (older ++ [x]).length = older.length + 1 := by simp
  have taken : p.slots.take (older.length + 1) = older ++ [x] := by rw [hs, shape, ← size, List.take_left]
  have dropped : p.slots.drop (older.length + 1) = complete ++ kept := by rw [hs, shape, ← size, List.drop_left]
  simp [Device.closeThrough, Device.closeOldest, taken, dropped, idle, takeWhile_complete_append hc hk,
    dropWhile_complete_append hc hk]

/-- With the work in hand done, time passes and nothing else. -/
theorem Device.passTo_of_idle {p : Device} (h : p.finishWork = p) (t : Moment) :
    p.passTo t = { p with now := max p.now t } := by
  rcases Nat.lt_or_ge p.now t with later | past
  · rw [Device.passTo_of_lt later, h, Nat.max_eq_right later.le]
  · rw [Device.passTo_of_le past, Nat.max_eq_left past]

/-- Settles O22: the slot is found by its epoch, time passes to its deadline, and the oldest slots close through
it. -/
theorem deadlineClosesThroughItsSlot : Obligations.DeadlineClosesThroughItsSlot := by
  intro s older x complete kept p lawful hs hc hk
  obtain ⟨stand, -, -⟩ := p.slotsLawful_iff.mp lawful
  have idle : p.held.closes = [] := (s.device.finishWork_kept).2.2
  have deadline : (p.slots.map Slot.deadline).getD older.length p.now = x.deadline := by simp [hs]
  have found : s.device.finishWork.slotOf x.epoch = some older.length := Device.slotOf_eq stand hs
  have closed : s.device.slotDeadline x.epoch = (p.passTo x.deadline).closeThrough older.length := by
    rw [← deadline]
    simp only [Device.slotDeadline, found]
    rfl
  rw [Device.passTo_of_idle s.device.finishWork_twice] at closed
  exact congrArg (fun d => Host.Outcome.next (s.withDevice d))
    (closed.trans (Device.closeThrough_eq (p := { p with now := _ }) hs idle hc hk))

end Sys2Proof.Machine

/-! ## The work on closes, piece by piece (O23) -/

namespace Sys2Proof.Machine

/-! ### One piece -/

section
variable {p : Device} {c : Close} {cs : List Close}

/-- R83: the first piece, the Node Table's work. -/
theorem Device.workPiece_nodes (hp : p.held = ⟨c :: cs, none⟩) :
    p.workPiece = (p.nodeWork c).withHeld ⟨c :: cs, some 0⟩ := by
  simp only [Device.workPiece, Device.closePiece, hp]
  rfl

/-- R89: the piece of a record. -/
theorem Device.workPiece_record {i : SecIx} (hp : p.held = ⟨c :: cs, some i⟩) (more : i < 127) :
    p.workPiece = (p.recordWork c i).withHeld ⟨c :: cs, some (i + 1)⟩ := by
  simp only [Device.workPiece, Device.closePiece, HeldWork.advance, hp, if_neg more.ne]
  rfl

/-- R88, R89: the piece of the last record, with which nothing is kept of the close. -/
theorem Device.workPiece_last (hp : p.held = ⟨c :: cs, some 127⟩) :
    p.workPiece = (p.recordWork c 127).withHeld ⟨cs, none⟩ := by
  simp only [Device.workPiece, Device.closePiece, HeldWork.advance, hp]
  rfl

end

/-! ### Pieces together make a close, and closes the work in hand -/

theorem drop_finRange (i : SecIx) : (List.finRange 128).drop i.val = i :: (List.finRange 128).drop (i.val + 1) := by
  rw [List.drop_eq_getElem_cons (by simp)]
  simp

section
variable {c : Close} {cs : List Close}

/-- R89: the records from `i` on, one piece each. -/
theorem Device.iterate_workPiece_records {n : Nat} {i : SecIx} (hn : i.val + n = 127) {p : Device}
    (hp : p.held = ⟨c :: cs, some i⟩) :
    Device.workPiece^[n + 1] p =
      Device.withHeld ⟨cs, none⟩ (((List.finRange 128).drop i.val).foldl (Device.recordWork c) p) := by
  induction n generalizing i p with
  | zero =>
    obtain rfl : i = 127 := Fin.ext hn
    exact Device.workPiece_last hp
  | succ n ih =>
    have next : (i + 1).val = i.val + 1 := Fin.val_add_one_of_lt' (by omega)
    rw [Function.iterate_succ_apply, Device.workPiece_record hp (by rw [Fin.lt_def]; omega), ih (by omega) rfl,
      Device.recordsWork_withHeld, Device.withHeld_withHeld, drop_finRange i, List.foldl_cons, next]

/-- R83, R89: 129 pieces are the work of one close whole. -/
theorem Device.iterate_workPiece_close {p : Device} (hp : p.held = ⟨c :: cs, none⟩) :
    Device.workPiece^[129] p = (p.workClose c).withHeld ⟨cs, none⟩ := by
  rw [Function.iterate_succ_apply, Device.workPiece_nodes hp,
    Device.iterate_workPiece_records (i := 0) (by rfl) rfl, Device.recordsWork_withHeld, Device.withHeld_withHeld]
  rfl

/-- R83, R89: what is left of a close is some pieces more. -/
theorem Device.iterate_workPiece_finishClose {p : Device} (hp : p.held.closes = c :: cs) :
    ∃ n, Device.workPiece^[n] p = (p.finishClose c).withHeld ⟨cs, none⟩ := by
  unfold Device.finishClose
  split
  · rename_i start
    exact ⟨129, Device.iterate_workPiece_close (by rw [← hp, ← start])⟩
  · rename_i i reached
    exact ⟨127 - i.val + 1, Device.iterate_workPiece_records (by omega) (by rw [← hp, ← reached])⟩

/-- R83, R88: closes are worked one after the other, piece by piece. -/
theorem Device.iterate_workPiece_closes (cs : List Close) {p : Device} (hp : p.held = ⟨cs, none⟩) :
    ∃ n, Device.workPiece^[n] p = (p.workCloses cs).withHeld HeldWork.empty := by
  induction cs generalizing p with
  | nil => exact ⟨0, congrArg (fun w => p.withHeld w) hp⟩
  | cons c cs ih =>
    obtain ⟨n, done⟩ := ih (p := (p.workClose c).withHeld ⟨cs, none⟩) rfl
    refine ⟨n + 129, ?_⟩
    rw [Function.iterate_add_apply, Device.iterate_workPiece_close hp, done, Device.workCloses_withHeld,
      Device.withHeld_withHeld, Device.workCloses_cons]

end

/-- R83: the work in hand is done piece by piece. -/
theorem Device.finishWork_eq_iterate (p : Device) : ∃ n, p.finishWork = Device.workPiece^[n] p := by
  cases hp : p.held.closes with
  | nil => exact ⟨0, Device.finishWork_of_idle (by simp [HeldWork.inHand, hp])⟩
  | cons c cs =>
    obtain ⟨n, finished⟩ := Device.iterate_workPiece_finishClose hp
    obtain ⟨m, worked⟩ := Device.iterate_workPiece_closes cs (p := (p.finishClose c).withHeld ⟨cs, none⟩) rfl
    refine ⟨m + n, ?_⟩
    have whole : p.finishWork = ((p.finishClose c).withHeld HeldWork.empty).workCloses cs := by
      simp only [Device.finishWork, hp]
      rfl
    rw [Function.iterate_add_apply, finished, worked, whole, Device.workCloses_withHeld, Device.workCloses_withHeld,
      Device.withHeld_withHeld]

/-! ### What a close leaves -/

/-- R139, R152: a zone with another's sequencer, cause list, markers, timer and latch. -/
def Zone.withSequencer (y u : Zone) : Zone :=
  { y with seq := u.seq, causes := u.causes, manual := u.manual, timer := u.timer, latch := u.latch }

/-- R1, R89: the states in which a record rests through a close. -/
def SecState.rests : SecState → Prop
  | .vacant => True
  | .draft => True
  | .confirmed => True
  | .isolated => True
  | .dormant => True
  | _ => False

theorem SecState.rests_iff (st : SecState) :
    st.rests ↔ st = .vacant ∨ st = .draft ∨ st = .confirmed ∨ st = .isolated ∨ st = .dormant := by
  cases st <;> simp [SecState.rests]

/-- The records that `P` names stand, and of every zone its settings and inputs. -/
structure Device.Leaves (P : SecIx → Prop) (p q : Device) : Prop where
  records : ∀ i, P i → q.sections.get i = p.sections.get i
  zones : ∀ z, q.zones.get z = (p.zones.get z).withSequencer (q.zones.get z)

namespace Device.Leaves

variable {P : SecIx → Prop} {p q r : Device}

theorem of_eq (hs : q.sections = p.sections) (hz : q.zones = p.zones) : Leaves P p q :=
  ⟨fun i _ => by rw [hs], fun z => by rw [hz]; rfl⟩

theorem trans (h : Leaves P p q) (k : Leaves P q r) : Leaves P p r where
  records i hi := (k.records i hi).trans (h.records i hi)
  zones z := calc
    r.zones.get z = (q.zones.get z).withSequencer (r.zones.get z) := k.zones z
    _ = ((p.zones.get z).withSequencer (q.zones.get z)).withSequencer (r.zones.get z) :=
      congrArg (fun y : Zone => y.withSequencer (r.zones.get z)) (h.zones z)
    _ = (p.zones.get z).withSequencer (r.zones.get z) := rfl

theorem setSection {i : SecIx} {u : SectionRec} (hi : ¬ P i) : Leaves P p (p.setSection i u) :=
  ⟨fun _ hj => Table.get_set_of_ne _ _ fun e => hi (e ▸ hj), fun _ => rfl⟩

theorem mapListed {i : SecIx} {f : SectionRec → SectionRec} (hi : ¬ P i) : Leaves P p (p.mapListed [i] f) := by
  refine ⟨fun j hj => ?_, fun _ => rfl⟩
  have other : j ∉ [i] := fun e => hi (List.mem_singleton.mp e ▸ hj)
  rw [Device.mapListed_sections, Table.get_mapIdx, if_neg other]

theorem setZone {z : ZoneIx} {y : Zone} (h : y = (p.zones.get z).withSequencer y) : Leaves P p (p.setZone z y) := by
  refine ⟨fun _ _ => rfl, fun w => ?_⟩
  rw [Device.setZone_zones, Table.get_set]
  split
  · rename_i e
    rw [e]
    exact h
  · rfl

theorem latchOutcome (z : ZoneIx) (o : OutcomeRec) : Leaves P p (p.latchOutcome z o) := setZone rfl

theorem sectionFlagIf (b : Bool) : Leaves P p (p.sectionFlagIf b) := of_eq (by simp) (by simp)

/-- R142: one record sent to zone 0. -/
theorem escalate {i : SecIx} (hi : ¬ P i) : Leaves P p (p.escalate [i]) := by
  unfold Device.escalate
  split
  · split
    · exact (mapListed hi).trans (setZone rfl)
    · split
      · exact (mapListed hi).trans (latchOutcome _ _)
      · exact (mapListed hi).trans (setZone rfl)
    · exact mapListed hi
  · exact mapListed hi

/-- R141: the answer to a record's trip request. -/
theorem tripRequest {i : SecIx} (hi : ¬ P i) : Leaves P p (p.tripRequest i) := by
  unfold Device.tripRequest
  dsimp only
  split
  · split
    · split
      · exact (setSection hi).trans (latchOutcome _ _)
      · exact (setSection hi).trans (setZone rfl)
    · exact (setSection hi).trans (setZone rfl)
    · split
      · exact escalate hi
      · exact setSection hi
  · exact setSection hi

/-- R29, R89: the work of a close on one record. -/
theorem recordWorked {i : SecIx} (h : p.RecordWorked i q) (hi : ¬ P i) : Leaves P p q := by
  cases h with
  | left => exact of_eq rfl rfl
  | written b _ => exact (setSection hi).trans (sectionFlagIf b)
  | @confirmed u cause e _ =>
    have written : Leaves P p (p.setSection i (u.confirm cause e)).setSectionFlag :=
      (setSection hi).trans (sectionFlagIf true)
    exact written.trans (tripRequest hi)

end Device.Leaves

/-- R89: a close does nothing on a record that rests. -/
theorem Device.recordWork_resting {p : Device} {i : SecIx} (c : Close) (h : (p.sections.get i).state.rests) :
    p.recordWork c i = p := by
  rcases (SecState.rests_iff _).mp h with h | h | h | h | h <;> simp only [Device.recordWork, h]

/-- R89: the records that rest stand while the others are worked. -/
theorem Device.Leaves.recordsWork {p q : Device} (c : Close)
    (h : Device.Leaves (fun i => (p.sections.get i).state.rests) p q) (l : List SecIx) :
    Device.Leaves (fun i => (p.sections.get i).state.rests) p (l.foldl (Device.recordWork c) q) := by
  induction l generalizing q with
  | nil => exact h
  | cons i l ih =>
    by_cases rests : (p.sections.get i).state.rests
    · rw [List.foldl_cons, Device.recordWork_resting c (by rwa [h.records i rests])]
      exact ih h
    · exact ih (h.trans (.recordWorked (q.recordWork_worked c i) rests))

/-- R83, R89: one close. -/
theorem Device.workClose_leaves (p : Device) (c : Close) :
    Device.Leaves (fun i => (p.sections.get i).state.rests) p (p.workClose c) := by
  obtain ⟨-, -, sections, zones, -⟩ := p.nodeWork_kept c
  exact Device.Leaves.recordsWork c (.of_eq sections zones) _

/-- What work keeps, as one equation. -/
theorem Device.KeptByWork.eq {p q : Device} (h : p.KeptByWork q) (slots : q.slots = p.slots)
    (held : q.held = p.held) :
    q = { p with
      nodes := q.nodes, sections := q.sections, zones := q.zones
      alerts := { p.alerts with flags := { p.alerts.flags with
        sect := q.alerts.flags.sect, node := q.alerts.flags.node } } } := by
  obtain ⟨link, clock, strangers, overwrites, profiles, port, now, choices, enables,
    ⟨stranger, linkFlag, sync⟩, -⟩ := h
  dsimp only
  rw [← link, ← clock, ← strangers, ← overwrites, ← profiles, ← port, ← now, ← choices, ← enables, ← stranger,
    ← linkFlag, ← sync, ← slots, ← held]

/-- Settles O23: the work in hand is the work of its closes whole, cut into pieces. -/
theorem closeIsWorkedInOrderPieceByPiece : Obligations.CloseIsWorkedInOrderPieceByPiece := by
  refine ⟨fun _ _ => rfl, fun _ => rfl, Device.workCloses_cons,
    fun p c cs hc => ⟨fun start => ?_, fun i reached more => ?_, fun reached => ?_, fun start => ?_⟩, fun p => ?_, fun p m => ⟨Device.passTo_of_le, Device.passTo_of_lt⟩,
    fun p c => ⟨fun i rests => ?_, fun z => ?_, ?_⟩⟩
  · have piece := Device.workPiece_nodes (p := p) (c := c) (cs := cs) (by rw [← hc, ← start])
    rwa [← hc] at piece
  · have piece := Device.workPiece_record (p := p) (c := c) (cs := cs) (by rw [← hc, ← reached]) more
    rwa [← hc] at piece
  · exact Device.workPiece_last (p := p) (c := c) (cs := cs) (by rw [← hc, ← reached])
  · have close := Device.iterate_workPiece_close (p := p) (c := c) (cs := cs) (by rw [← hc, ← start])
    rwa [← start] at close
  · obtain ⟨n, finished⟩ := p.finishWork_eq_iterate
    exact ⟨n, finished, (p.finishWork_kept).2.2⟩
  · exact (p.workClose_leaves c).records i ((SecState.rests_iff _).mpr rests)
  · exact (p.workClose_leaves c).zones z
  · obtain ⟨kept, ⟨slots, held⟩, -⟩ := p.workClose_kept c
    exact kept.eq slots held

end Sys2Proof.Machine

/-! ## The commands of the Epoch Clock (O24) -/

namespace Sys2Proof.Machine

/-! ### SET EPOCH CLOCK -/

/-- R69: the settings that the parameter bytes give. -/
def sentSettings (src : ClockSource) (per gr : Byte) (lim win : Half) (miss : Byte) : ClockSettings :=
  clockSettings src per.toNat gr.toNat lim.toNat win.toNat miss.toNat

/-- R69: what a field can hold bounds the limit and the miss limit above. -/
theorem sentSettings_eq (src : ClockSource) (per gr : Byte) (lim win : Half) (miss : Byte) :
    sentSettings src per gr lim win miss =
      ⟨src, min 200 (max 10 per.toNat), min (min 50 (max 1 gr.toNat)) (min 200 (max 10 per.toNat) / 2),
        max 1 lim.toNat, min 600 (max 5 win.toNat), max 1 miss.toNat⟩ := by
  have limit : clamp 1 65535 lim.toNat = max 1 lim.toNat := Nat.min_eq_right (by omega)
  have missed : clamp 1 255 miss.toNat = max 1 miss.toNat := Nat.min_eq_right (by omega)
  rw [sentSettings, clockSettings, limit, missed]
  rfl

/-- R69, R180: CLAMPED tells a setting that differs from what was sent. -/
theorem ClockSettings.code_of_differs (c : ClockSettings) (per gr lim win miss : Nat) :
    (okOrClamped (c.differs per gr lim win miss)).byte =
      if c.period = per ∧ c.grace = gr ∧ c.holdoverLimit = lim ∧ c.window = win ∧ c.missLimit = miss then 0x00#8
      else 0x01#8 := by
  have differs : c.differs per gr lim win miss = true ↔
      ¬ (c.period = per ∧ c.grace = gr ∧ c.holdoverLimit = lim ∧ c.window = win ∧ c.missLimit = miss) := by
    simp only [ClockSettings.differs, Bool.or_eq_true, bne_iff_ne]
    tauto
  split
  · exact (okOrClamped_byte differs).2.mpr (not_not.mpr ‹_›)
  · exact (okOrClamped_byte differs).1.mpr ‹_›

section
variable {c : EpochClock} {new : ClockSettings} (now : Moment)

/-- R70: a source already in use. -/
theorem EpochClock.apply_same (h : c.settings.source = new.source) : c.apply now new = { c with settings := new } :=
  if_pos h

/-- R70: the internal source taken into use. -/
theorem EpochClock.apply_internal (h : c.settings.source = .external) (hn : new.source = .internal) :
    c.apply now new =
      { c with settings := new, lock := .free, ref := some now, runPeriod := new.period, runGrace := new.grace,
               holdover := 0, syncLost := false } := by
  simp [EpochClock.apply, EpochClock.begin, h, hn]

/-- R70: the external source taken into use. -/
theorem EpochClock.apply_external (h : c.settings.source = .internal) (hn : new.source = .external) :
    c.apply now new =
      { c with settings := new, lock := .acquiring, ref := none, holdover := 0, syncLost := false } := by
  simp [EpochClock.apply, h, hn]

end

section
variable (p : Device) (per gr : Byte) (lim win : Half) (miss : Byte)

theorem Device.setEpochClock_badValue {b : Byte} (h : 2 ≤ b.toNat) :
    p.setEpochClock b per gr lim win miss = p.refuse .badValue := by
  simp only [Device.setEpochClock, sourceParam_none h]

/-- R69, R70: an accepted command. -/
theorem Device.setEpochClock_accepted {src : ClockSource} {clock : EpochClock}
    (h : p.clock.apply p.now (sentSettings src per gr lim win miss) = clock) :
    p.setEpochClock src.code per gr lim win miss =
      Device.accept { p with clock := clock }
        (okOrClamped ((sentSettings src per gr lim win miss).differs per.toNat gr.toNat lim.toNat win.toNat
          miss.toNat)) := by
  subst h
  simp only [Device.setEpochClock, sourceParam_code]
  rfl

/-- R69, R70, R173: the part once SET EPOCH CLOCK has been taken. -/
theorem exec_setEpochClock {s : State} {src : ClockSource} {clock : EpochClock}
    (h : s.device.clock.apply s.device.now (sentSettings src per gr lim win miss) = clock) :
    exec (.setEpochClock src.code per gr lim win miss) s = .next (s.answered { s.device with clock := clock }
      [if min 200 (max 10 per.toNat) = per.toNat
          ∧ min (min 50 (max 1 gr.toNat)) (min 200 (max 10 per.toNat) / 2) = gr.toNat ∧ max 1 lim.toNat = lim.toNat
          ∧ min 600 (max 5 win.toNat) = win.toNat ∧ max 1 miss.toNat = miss.toNat then 0x00#8 else 0x01#8]) := by
  have code := (sentSettings src per gr lim win miss).code_of_differs per.toNat gr.toNat lim.toNat win.toNat miss.toNat
  refine (State.next_answered (s.device.setEpochClock_accepted per gr lim win miss h)).trans ?_
  rw [Device.accept_fst, Device.accept_snd, code, sentSettings_eq]

end

/-! ### RESTART EVALUATION -/

/-- R86: a record restarted. -/
theorem SectionRec.restart_eq (prof : Profile) (r : SectionRec) :
    r.restart prof =
      if r.state = .armed ∨ r.state = .suspect ∨ r.state = .settling then r.enterSettling prof else r := by
  unfold SectionRec.restart
  split <;> simp [*]

theorem Device.anySequencerBusy_iff (p : Device) :
    p.anySequencerBusy = true ↔ ∃ z, (p.zones.get z).seq ≠ .idle := by
  simp [Device.anySequencerBusy, Table.any_iff]

/-- Settles O24: a source in use changes the settings alone, another also the lock state; a restart is refused while
a sequencer is busy. -/
theorem epochClockCommandsWriteAndRestart : Obligations.EpochClockCommandsWriteAndRestart := by
  refine ⟨fun s per gr lim win miss => ?_, fun s => ⟨fun n => rfl, fun busy => ?_, fun quiet => ?_⟩⟩
  · refine ⟨fun b bad => State.next_answered (s.device.setEpochClock_badValue per gr lim win miss bad),
      fun outside => ⟨?_, ?_⟩, fun inside => ⟨?_, ?_⟩⟩
    · refine exec_setEpochClock per gr lim win miss (src := .external) ?_
      rw [sentSettings_eq, EpochClock.apply_same _ outside]
    · refine exec_setEpochClock per gr lim win miss (src := .internal) ?_
      rw [sentSettings_eq, EpochClock.apply_internal _ outside rfl]
    · refine exec_setEpochClock per gr lim win miss (src := .internal) ?_
      rw [sentSettings_eq, EpochClock.apply_same _ inside]
    · refine exec_setEpochClock per gr lim win miss (src := .external) ?_
      rw [sentSettings_eq, EpochClock.apply_external _ inside rfl]
  · exact State.next_answered (if_pos ((Device.anySequencerBusy_iff _).mpr busy))
  · have idle : ¬ s.device.finishWork.anySequencerBusy = true := fun busy => by
      obtain ⟨z, seq⟩ := (Device.anySequencerBusy_iff _).mp busy
      exact seq (quiet z)
    refine ⟨_, State.next_answered (if_neg idle), rfl, fun n => ?_, fun i => ?_⟩
    · simp only [Device.accept_fst, Device.mapSections_nodes, Table.get_mapIdx]
      rfl
    · simp only [Device.accept_fst, Device.mapSections_sections, Table.get_mapIdx, SectionRec.restart_eq]
      rfl

end Sys2Proof.Machine

/-! ## The evaluation of a close (O38, O40, O41)

A phase result is one of three, and the source test and the residual tell which; the record's scores, its settle
count and the transition decision follow from the results. -/

namespace Sys2Proof.Machine

/-! ### One phase (O38) -/

section
variable {prof : Profile} {f : PhaseFigures}

/-- R92: a phase that fails the source test. -/
theorem phaseResult_skipped (dead : f.vu < prof.liveLevel) : phaseResult prof f = .skipped := if_pos dead

/-- R95: a residual below -REVERSE_TOL. -/
theorem phaseResult_inconsistent (live : prof.liveLevel ≤ f.vu) (reverse : residual f < -(prof.reverseTol : Int)) :
    phaseResult prof f = .inconsistent :=
  (if_neg live.not_gt).trans (if_pos reverse)

/-- R93, R96: a scored phase. -/
theorem phaseResult_scored (live : prof.liveLevel ≤ f.vu) (forward : -(prof.reverseTol : Int) ≤ residual f) :
    phaseResult prof f = .scored (openTerm prof f) (leakTerm prof (residual f)) :=
  (if_neg live.not_gt).trans (if_neg forward.not_gt)

/-- R93: the ratio grows with the downstream voltage. -/
theorem continuityRatio_mono (vu : Nat) {v w : Nat} (h : v ≤ w) : continuityRatio vu v ≤ continuityRatio vu w :=
  min_le_min_left _ (Nat.div_le_div_right (Nat.mul_le_mul_left _ h))

/-- R93: no downstream node gives no open term. -/
theorem openTerm_absent (h : f.vd = []) : openTerm prof f = .absent := by
  rw [openTerm, h]

/-- R93: the least downstream voltage decides the open term. -/
theorem openTerm_of_least {v : Nat} (named : v ∈ f.vd) (least : ∀ w ∈ f.vd, v ≤ w) :
    openTerm prof f = if continuityRatio f.vu v < prof.openRatio then .hit else .miss := by
  have least_eq : f.vd.min? = some v := List.min?_eq_some_iff.mpr ⟨named, least⟩
  cases downstream : f.vd with
  | nil => simp [downstream] at named
  | cons x xs =>
    rw [downstream, List.min?_cons', Option.some.injEq] at least_eq
    simp only [openTerm, downstream, least_eq]

/-- R93: an open hit is a ratio below OPEN_RATIO at some downstream node. -/
theorem openTerm_hit_iff : openTerm prof f = .hit ↔ ∃ v ∈ f.vd, continuityRatio f.vu v < prof.openRatio := by
  cases found : f.vd.min? with
  | none =>
    have alone : f.vd = [] := List.min?_eq_none_iff.mp found
    simp [openTerm_absent alone, alone]
  | some v =>
    obtain ⟨named, least⟩ := List.min?_eq_some_iff.mp found
    rw [openTerm_of_least named least]
    constructor
    · intro hit
      exact ⟨v, named, by by_contra high; simp [high] at hit⟩
    · rintro ⟨w, among, low⟩
      exact if_pos ((continuityRatio_mono f.vu (least w among)).trans_lt low)

/-- R96: a leak hit and its increment. -/
theorem leakTerm_hit {r : Int} (h : (prof.leakMin : Int) ≤ r) :
    leakTerm prof r = some (min 15 (1 + ((r - prof.leakMin) / prof.leakUnit).toNat)) := by
  have steps : ((r - prof.leakMin) / prof.leakUnit).toNat = (r - (prof.leakMin : Int)).toNat / prof.leakUnit := by
    obtain ⟨above, leaks⟩ := Int.le.dest h
    rw [← leaks, add_sub_cancel_left, Int.toNat_natCast, ← Int.natCast_ediv, Int.toNat_natCast]
  rw [leakTerm, if_pos h, leakIncrement, steps]

theorem leakTerm_miss {r : Int} (h : r < (prof.leakMin : Int)) : leakTerm prof r = none := if_neg h.not_ge

theorem leakTerm_isSome_iff {r : Int} : (leakTerm prof r).isSome = true ↔ (prof.leakMin : Int) ≤ r := by
  unfold leakTerm
  split <;> simp [*]

end

/-- Settles O38: the source test and the residual name the result, and its two terms move the scores. -/
theorem phaseTestsMoveScores : Obligations.PhaseTestsMoveScores := by
  intro prof f motion openScore leakScore
  dsimp only
  refine ⟨fun dead => ?_, fun live reverse => ?_, fun live forward => ?_⟩
  · rw [phaseResult_skipped dead]
    exact ⟨⟨rfl, rfl, rfl⟩, rfl, nofun⟩
  · rw [phaseResult_inconsistent live reverse]
    exact ⟨⟨rfl, rfl, rfl⟩, rfl, rfl⟩
  · rw [phaseResult_scored live forward]
    refine ⟨rfl, nofun, fun alone => ?_, fun v named least => ⟨fun low => ?_, fun high => ?_⟩, fun leaks => ?_,
      fun tight => ?_, ?_⟩
    · rw [openTerm_absent alone]; rfl
    · rw [(openTerm_of_least named least).trans (if_pos low)]; rfl
    · rw [(openTerm_of_least named least).trans (if_neg high.not_gt)]; rfl
    · rw [leakTerm_hit (r := residual f) leaks]; rfl
    · rw [leakTerm_miss (r := residual f) tight]; rfl
    · rw [PhaseResult.hit, Bool.or_eq_true, beq_iff_eq, openTerm_hit_iff, leakTerm_isSome_iff]
      exact or_comm

/-! ### The transition decision (O41) -/

/-- R105: some score stands at a level. -/
theorem le_highest_iff {k : Nat} {s : PerPhase Nat} : k ≤ highest s ↔ ∃ ph, k ≤ s.get ph := by
  simp only [highest, le_max_iff]
  constructor
  · rintro (h | h | h)
    · exact ⟨.a, h⟩
    · exact ⟨.b, h⟩
    · exact ⟨.c, h⟩
  · rintro ⟨_ | _ | _, h⟩
    · exact .inl h
    · exact .inr (.inl h)
    · exact .inr (.inr h)

theorem highest_eq_zero_iff {s : PerPhase Nat} : highest s = 0 ↔ ∀ ph, s.get ph = 0 := by
  simpa [Nat.one_le_iff_ne_zero] using not_congr (le_highest_iff (k := 1) (s := s))

theorem SectionRec.scoresZero_iff (r : SectionRec) :
    r.scoresZero ↔ highest r.openScore = 0 ∧ highest r.leakScore = 0 := by
  rw [highest_eq_zero_iff, highest_eq_zero_iff, SectionRec.scoresZero, forall_and]

/-- R105, R106: the first phase that has the highest score. -/
theorem causePhase_eq {s : PerPhase Nat} {ph : Phase}
    (h : (∀ x, s.get x ≤ s.get ph) ∧ ∀ x, Phase.code x < Phase.code ph → s.get x < s.get ph) : causePhase s = ph := by
  obtain ⟨greatest, earlier⟩ := h
  have top : highest s = s.get ph := le_antisymm
    (by obtain ⟨x, reaches⟩ := le_highest_iff.mp (le_refl (highest s)); exact reaches.trans (greatest x))
    (le_highest_iff.mpr ⟨ph, le_refl _⟩)
  have below : ∀ x, Phase.code x < Phase.code ph → s.get x ≠ highest s := fun x first => by
    rw [top]; exact (earlier x first).ne
  unfold causePhase
  cases ph with
  | a => exact if_pos top.symm
  | b => exact (if_neg (below .a (by decide))).trans (if_pos top.symm)
  | c => exact (if_neg (below .a (by decide))).trans (if_neg (below .b (by decide)))

/-- R123: the hazard level EXTREME alone lowers the open trip level. -/
theorem tOpen_eq (prof : Profile) (hazard : Hazard) :
    tOpen prof hazard =
      if hazard = .extreme then max prof.openSuspect ((prof.openTrip + 1) / 2) else prof.openTrip := by
  cases hazard <;> rfl

/-- R118, R123: where the effective open trip level lies. -/
theorem tOpen_bounds {prof : Profile} (h : prof.lawful) (hazard : Hazard) :
    1 ≤ tOpen prof hazard ∧ prof.openSuspect ≤ tOpen prof hazard ∧ tOpen prof hazard ≤ prof.openTrip := by
  obtain ⟨-, -, -, ⟨positive, ordered, -⟩, -⟩ := h
  rw [tOpen_eq]
  split <;> omega

section
variable {prof : Profile} {hazard : Hazard} {r : SectionRec}

/-- R105: the open step. -/
theorem decision_open (opens : tOpen prof hazard ≤ highest r.openScore) :
    decision prof hazard r = .confirm ⟨.openLine, causePhase r.openScore⟩ := if_pos opens

variable (shut : ¬ tOpen prof hazard ≤ highest r.openScore)
include shut

/-- R106: the ground step. -/
theorem decision_ground (grounds : hazard ≠ .normal ∧ prof.leakTrip ≤ highest r.leakScore) :
    decision prof hazard r = .confirm ⟨.ground, causePhase r.leakScore⟩ :=
  (if_neg shut).trans (if_pos grounds)

variable (dry : ¬ (hazard ≠ .normal ∧ prof.leakTrip ≤ highest r.leakScore))
include dry

/-- R107: the suspect step. -/
theorem decision_suspect
    (suspects : prof.openSuspect ≤ highest r.openScore ∨ prof.leakSuspect ≤ highest r.leakScore) :
    decision prof hazard r = .suspect :=
  (if_neg shut).trans ((if_neg dry).trans (if_pos suspects))

variable (calm : ¬ (prof.openSuspect ≤ highest r.openScore ∨ prof.leakSuspect ≤ highest r.leakScore))
include calm

/-- R108: the release. -/
theorem decision_release (suspect : r.state = .suspect) (zero : r.scoresZero) : decision prof hazard r = .release :=
  (if_neg shut).trans ((if_neg dry).trans ((if_neg calm).trans (if_pos ⟨suspect, r.scoresZero_iff.mp zero⟩)))

/-- R104, R108: no step holds. -/
theorem decision_stay (stays : ¬ (r.state = .suspect ∧ r.scoresZero)) : decision prof hazard r = .stay := by
  rw [SectionRec.scoresZero_iff] at stays
  exact (if_neg shut).trans ((if_neg dry).trans ((if_neg calm).trans (if_neg stays)))

end

section
variable {p : Device} {r : SectionRec} (i : SecIx) (epoch : Half)

/-- R109: the record confirmed and its trip request answered. -/
theorem Device.carryOut_confirm {cause : Cause}
    (h : decision (p.profileOf r) (p.zones.get r.zone).hazard r = .confirm cause) :
    p.carryOut i epoch r = ((p.setSection i (r.confirm cause epoch)).setSectionFlag).tripRequest i := by
  rw [Device.carryOut, h]

/-- R107, R111: entry to SUSPECT sets the SECTION flag. -/
theorem Device.carryOut_suspect_entered (h : decision (p.profileOf r) (p.zones.get r.zone).hazard r = .suspect)
    (armed : r.state = .armed) :
    p.carryOut i epoch r = (p.setSection i { r with state := .suspect }).setSectionFlag := by
  rw [Device.carryOut, h, armed]
  rfl

/-- R107: a record that is SUSPECT already. -/
theorem Device.carryOut_suspect_kept (h : decision (p.profileOf r) (p.zones.get r.zone).hazard r = .suspect)
    (suspect : r.state = .suspect) : p.carryOut i epoch r = p.setSection i r := by
  have kept : { r with state := .suspect } = r := by rw [← suspect]
  rw [Device.carryOut, h]
  simp only [kept, suspect, bne_self_eq_false]
  rfl

theorem Device.carryOut_release (h : decision (p.profileOf r) (p.zones.get r.zone).hazard r = .release) :
    p.carryOut i epoch r = p.setSection i { r with state := .armed } := by
  rw [Device.carryOut, h]

theorem Device.carryOut_stay (h : decision (p.profileOf r) (p.zones.get r.zone).hazard r = .stay) :
    p.carryOut i epoch r = p.setSection i r := by
  rw [Device.carryOut, h]

end

/-- Settles O41: each step of the decision, and what is carried out on it. -/
theorem decisionTakesFirstStep : Obligations.DecisionTakesFirstStep := by
  intro p i epoch r watched
  dsimp only
  simp only [← tOpen_eq, exists_or, ← le_highest_iff]
  refine ⟨fun ph opens first => ?_, fun ph shut grounds first => ?_, fun shut dry suspects armed => ?_,
    fun shut dry suspects suspect => ?_, fun shut dry calm suspect zero => ?_, fun shut dry calm stays => ?_,
    fun lawful => tOpen_bounds lawful _⟩
  · rw [Device.carryOut_confirm i epoch (decision_open opens), causePhase_eq first]
    rfl
  · rw [Device.carryOut_confirm i epoch (decision_ground shut grounds), causePhase_eq first]
    rfl
  · exact Device.carryOut_suspect_entered i epoch (decision_suspect shut dry suspects) armed
  · exact Device.carryOut_suspect_kept i epoch (decision_suspect shut dry suspects) suspect
  · exact Device.carryOut_release i epoch (decision_release shut dry calm suspect zero)
  · refine Device.carryOut_stay i epoch (decision_stay shut dry calm fun ⟨suspect, zero⟩ => ?_)
    rcases stays with armed | nonzero
    · cases suspect.symm.trans armed
    · exact nonzero zero

/-! ### One record (O40) -/

/-- R91: the result of a phase of the set, the others skipped. -/
theorem get_phaseResults (prof : Profile) (reports : List StoredReport) (r : SectionRec) (ph : Phase) :
    (phaseResults prof reports r).get ph =
      if r.phases.get ph then phaseResult prof (figures reports r ph) else .skipped :=
  PerPhase.get_ofFn _ ph

/-- R91: a test that no skipped phase passes looks at the phases of the set alone. -/
theorem anyResult_phaseResults (prof : Profile) (reports : List StoredReport) (r : SectionRec)
    {test : PhaseResult → Bool} (skipped : test .skipped = false) :
    anyResult test (phaseResults prof reports r) =
      allPhases.any fun ph => r.phases.get ph && test (phaseResult prof (figures reports r ph)) := by
  unfold anyResult
  congr 1
  funext ph
  rw [get_phaseResults]
  cases r.phases.get ph
  · exact skipped
  · rfl

/-- R97: an INCONSISTENT phase has passed the source test. -/
theorem anyInconsistent_of_none_passed {res : PerPhase PhaseResult}
    (h : anyResult PhaseResult.passed res = false) : anyInconsistent res = false := by
  rw [anyInconsistent, anyResult, List.any_eq_false]
  intro ph _ inconsistent
  have passed := anyResult_false h ph
  rw [beq_iff_eq.mp inconsistent] at passed
  cases passed

section
variable {reports : List StoredReport} {r : SectionRec} {rep : NodeIx → StoredReport}
  (found : ∀ n ∈ r.nodes, reportOf reports n = some (rep n))
include found

/-- R90: a good report of every named node. -/
theorem evaluable_of_found (good : ∀ n ∈ r.nodes, (rep n).fault = false) : evaluable reports r = true :=
  List.all_eq_true.mpr fun n named => by simp only [found n named, good n named, Bool.not_false]

/-- R98: MOTION in the report of a named node. -/
theorem anyMotion_of_found : anyMotion reports r = r.nodes.any fun n => (rep n).motion :=
  by
  rw [anyMotion, Bool.eq_iff_iff, List.any_eq_true, List.any_eq_true]
  exact exists_congr fun n => and_congr_right fun named => by simp only [found n named]

/-- R91: the figures stand in the named nodes' reports. -/
theorem figures_of_found (ph : Phase) :
    figures reports r ph =
      { vu := (rep r.upstream).voltage.get ph
        iu := (rep r.upstream).current.get ph
        vd := r.downstream.map fun n => (rep n).voltage.get ph
        id := r.downstream.map fun n => (rep n).current.get ph
        tap := r.tap.get ph } := by
  have upstream := found r.upstream List.mem_cons_self
  have downstream : ∀ n ∈ r.downstream, reportOf reports n = some (rep n) := fun n named =>
    found n (List.mem_cons_of_mem _ named)
  have voltages : r.downstream.map (voltageOf reports ph) = r.downstream.map fun n => (rep n).voltage.get ph :=
    List.map_congr_left fun n named => by simp only [voltageOf, downstream n named]
  have currents : r.downstream.map (currentOf reports ph) = r.downstream.map fun n => (rep n).current.get ph :=
    List.map_congr_left fun n named => by simp only [currentOf, downstream n named]
  rw [figures, voltages, currents]
  simp only [voltageOf, currentOf, upstream]

end

section
variable {res : PerPhase PhaseResult} {r : SectionRec}

/-- R102: no phase passed the source test. -/
theorem SectionRec.settleDown_none_passed (h : anyResult PhaseResult.passed res = false) : r.settleDown res = r :=
  if_neg (by simp [h])

/-- R102, R103: the settle count falls, and at 0 the record is ARMED. -/
theorem SectionRec.settleDown_passed (h : anyResult PhaseResult.passed res = true) {n : Nat}
    (count : r.settle = n + 1) :
    r.settleDown res = { r with settle := n, state := if n = 0 then .armed else .settling } := by
  rw [SectionRec.settleDown, if_pos h, count, Nat.add_sub_cancel]

/-- R98 to R100: the scores move, and a first hit's epoch is kept. -/
theorem SectionRec.applyScores_eq (prof : Profile) (motion : Bool) (epoch : Half) (res : PerPhase PhaseResult)
    (r : SectionRec) :
    r.applyScores prof motion epoch res =
      { r with
        openScore := PerPhase.ofFn fun ph => newOpenScore prof motion (res.get ph) (r.openScore.get ph)
        leakScore := PerPhase.ofFn fun ph => newLeakScore prof (res.get ph) (r.leakScore.get ph)
        firstHit :=
          if r.firstHit = none ∧ anyResult PhaseResult.hit res = true then some epoch else r.firstHit } := by
  simp only [SectionRec.applyScores, Bool.and_eq_true, Option.isNone_iff_eq_none]

/-- R95: no INCONSISTENT phase leaves the flag. -/
theorem SectionRec.markInconsistent_of_none (h : anyInconsistent res = false) : r.markInconsistent res = r := by
  rw [SectionRec.markInconsistent, h, Bool.or_false]

end

section
variable {p : Device} {c : Close} {i : SecIx}

/-- Writing back the record that stands changes nothing. -/
theorem Device.setSection_get_self (p : Device) (i : SecIx) : p.setSection i (p.sections.get i) = p := by
  rw [Device.setSection, Table.set_get_self]

/-- R44: a record of an energized zone that names no bad node is evaluated. -/
theorem Device.recordWork_evaluated
    (watched : (p.sections.get i).state = .armed ∨ (p.sections.get i).state = .settling)
    (powered : p.energized (p.sections.get i).zone = true) (good : ¬ p.namesBad (p.sections.get i)) :
    p.recordWork c i = p.evaluate c i := by
  rw [Device.recordWork_watched watched]
  exact (if_pos powered).trans (if_neg fun bad => good ((p.namesBadNode_iff _).mp bad))

variable {r : SectionRec} {res : PerPhase PhaseResult} (stands : p.sections.get i = r)
  (fit : evaluable c.reports r = true) (results : phaseResults (p.profileOf r) c.reports r = res)
include stands fit results

/-- R102, R103: the evaluation of a SETTLING record. -/
theorem Device.evaluate_settling (settling : r.state = .settling) :
    p.evaluate c i =
      (p.setSection i ((r.markInconsistent res).settleDown res)).sectionFlagIf (anyInconsistent res) := by
  subst stands results
  rw [← Device.sectionFlagIf_setSection]
  exact (if_pos fit).trans (if_pos settling)

/-- R102: a SETTLING record of which no phase passed is left as it stands. -/
theorem Device.evaluate_none_passed (settling : r.state = .settling)
    (none_passed : anyResult PhaseResult.passed res = false) : p.evaluate c i = p := by
  have none_bad := anyInconsistent_of_none_passed none_passed
  rw [Device.evaluate_settling stands fit results settling, SectionRec.settleDown_none_passed none_passed,
    SectionRec.markInconsistent_of_none none_bad, none_bad, ← stands, Device.setSection_get_self]
  rfl

/-- R98 to R104: the evaluation of an ARMED or SUSPECT record. -/
theorem Device.evaluate_scored (scored : r.state ≠ .settling) :
    p.evaluate c i = (p.sectionFlagIf (anyInconsistent res)).carryOut i c.epoch
      ((r.markInconsistent res).applyScores (p.profileOf r) (anyMotion c.reports r) c.epoch res) := by
  subst stands results
  exact (if_pos fit).trans (if_neg scored)

end

/-- R98, R99: a score moved on the phases of the set alone. -/
theorem ofFn_phaseResults {prof : Profile} {reports : List StoredReport} {r : SectionRec}
    {move : PhaseResult → Nat → Nat} (skipped : ∀ k, move .skipped k = k) (old : PerPhase Nat) :
    (PerPhase.ofFn fun ph => move ((phaseResults prof reports r).get ph) (old.get ph)) =
      PerPhase.ofFn fun ph =>
        if r.phases.get ph then move (phaseResult prof (figures reports r ph)) (old.get ph) else old.get ph := by
  congr 1
  funext ph
  rw [get_phaseResults]
  cases r.phases.get ph
  · exact skipped _
  · rfl

/-- Settles O40: with a good report of every named node the record is evaluated on the figures of those reports. -/
theorem closeSettlesOrScoresRecord : Obligations.CloseSettlesOrScoresRecord := by
  intro p c i rep r prof figs res some_ bad motion flagged noted score scored distinct good
  have found : ∀ n ∈ r.nodes, reportOf c.reports n = some (rep n) := fun n named => by
    obtain ⟨arrived, node, -⟩ := good n named
    simpa only [node] using reportOf_eq_some distinct arrived
  have fit : evaluable c.reports r = true := evaluable_of_found found fun n named => by
    obtain ⟨-, -, sound⟩ := good n named
    exact sound
  let results := phaseResults prof c.reports r
  have figures_eq : figures c.reports r = figs := funext (figures_of_found found)
  have any_eq : ∀ test : PhaseResult → Bool, test .skipped = false →
      anyResult test results = some_ test := fun test skipped => by
    rw [anyResult_phaseResults prof c.reports r skipped, figures_eq]
    rfl
  have bad_eq : anyInconsistent results = bad := any_eq _ rfl
  have noted_eq : r.markInconsistent results = noted := by rw [SectionRec.markInconsistent, bad_eq]
  refine ⟨fun settling powered sound => ?_, fun taken => ?_⟩
  · rw [Device.recordWork_evaluated (.inr settling) powered sound]
    refine ⟨fun none_passed => ?_, fun n passed count => ?_⟩
    · exact Device.evaluate_none_passed rfl fit rfl settling ((any_eq _ rfl).trans none_passed)
    · have counted : noted.settle = n + 1 := count
      rw [Device.evaluate_settling rfl fit (res := results) rfl settling, noted_eq, bad_eq,
        SectionRec.settleDown_passed ((any_eq _ rfl).trans passed) counted]
      rfl
  · have worked : p.recordWork c i = p.evaluate c i := by
      rcases taken with suspect | ⟨armed, powered, sound⟩
      · exact Device.recordWork_suspect suspect
      · exact Device.recordWork_evaluated (.inl armed) powered sound
    have moving : r.state ≠ .settling := fun settling => by
      rcases taken with suspect | ⟨armed, -⟩
      · cases settling.symm.trans suspect
      · cases settling.symm.trans armed
    have scored_eq : noted.applyScores prof (anyMotion c.reports r) c.epoch results = scored := by
      rw [SectionRec.applyScores_eq, anyMotion_of_found found, any_eq PhaseResult.hit rfl,
        ofFn_phaseResults fun _ => rfl, ofFn_phaseResults fun _ => rfl, figures_eq]
    rw [worked, Device.evaluate_scored rfl fit (res := results) rfl moving, noted_eq, bad_eq]
    exact congrArg ((flagged p).carryOut i c.epoch) scored_eq

end Sys2Proof.Machine

/-! ## The lines and their conditions (O50) -/

namespace Sys2Proof.Machine

section
variable (p : Device)

/-- R133: the debounced breaker state under each polarity. -/
theorem Zone.isOpen_iff (y : Zone) :
    y.isOpen = true ↔ y.polarity = .highOpen ∧ y.stable = true ∨ y.polarity = .lowOpen ∧ y.stable = false := by
  unfold Zone.isOpen
  cases y.polarity <;> simp

/-- R125, R156: the states in which a record blocks. -/
theorem SectionRec.blocks_iff (hazard : Hazard) (r : SectionRec) :
    r.blocks hazard = true ↔
      r.state = .suspect ∨ r.state = .confirmed ∨ r.state = .isolated ∨ r.state = .blind ∧ hazard = .extreme := by
  unfold SectionRec.blocks
  cases r.state <;> simp

/-- R156: the records in the scope of a zone. -/
theorem Device.inScope_iff (z : ZoneIx) (i : SecIx) :
    p.inScope z i = true ↔ z = 0 ∨ (p.sections.get i).zone = z := by
  simp [Device.inScope]

/-- R155: zone 0's permissive waits for every sequencer, another zone's for its own. -/
theorem Device.gateIdle_zero : p.gateIdle 0 = true ↔ ∀ z, (p.zones.get z).seq = .idle := by
  simp [Device.gateIdle, Table.any_eq_false_iff]

theorem Device.gateIdle_of_ne_zero {z : ZoneIx} (h : z ≠ 0) :
    p.gateIdle z = true ↔ (p.zones.get z).seq = .idle := by
  simp [Device.gateIdle, h]

/-- R155, R156: a permissive is asserted with its gate idle, no hold, and no record in scope blocking. -/
theorem Device.permit_iff (z : ZoneIx) :
    p.permit z = true ↔ p.gateIdle z = true ∧ (p.zones.get z).hold = false
      ∧ ∀ i, p.inScope z i = true → ¬ p.blocks i = true := by
  simp [Device.permit, Table.any_eq_false_iff, and_assoc]

/-- R139. -/
theorem Device.trip_iff (z : ZoneIx) :
    p.trip z = true ↔ (p.zones.get z).seq = .tripping ∨ (p.zones.get z).seq = .hanging := by
  unfold Device.trip
  cases (p.zones.get z).seq <;> simp

/-- R135. -/
theorem Device.energized_iff (z : ZoneIx) :
    p.energized z = true ↔ (p.zones.get z).isOpen = false ∧ (p.zones.get 0).isOpen = false := by
  simp [Device.energized]

/-- R161. -/
theorem Device.outcomeFlag_iff : p.outcomeFlag = true ↔ ∃ z, (p.zones.get z).latch ≠ none := by
  simp [Device.outcomeFlag, Table.any_iff, Option.isSome_iff_ne_none]

/-- R162: ALERT_N is low exactly while a flag stands whose enable is on. -/
theorem Device.alertN_iff :
    p.alertN = false ↔ (p.alerts.flags.sect = true ∧ p.alerts.enables.sect = true)
      ∨ (p.alerts.flags.node = true ∧ p.alerts.enables.node = true)
      ∨ (p.alerts.flags.stranger = true ∧ p.alerts.enables.stranger = true)
      ∨ (p.alerts.flags.link = true ∧ p.alerts.enables.link = true)
      ∨ (p.alerts.flags.sync = true ∧ p.alerts.enables.sync = true)
      ∨ (p.outcomeFlag = true ∧ p.alerts.enables.outcome = true) := by
  simp only [Device.alertN, Device.alert, Bool.not_eq_false', Bool.or_eq_true, Bool.and_eq_true, or_assoc]

end

/-- Settles O50: each line by its own condition; zone 0 has every record in its scope. -/
theorem linesFollowTheirConditions : Obligations.LinesFollowTheirConditions := by
  intro p
  refine ⟨?_, fun z other => ?_, p.trip_iff, p.energized_iff, Zone.isOpen_iff, p.outcomeFlag_iff, p.alertN_iff⟩
  · simp only [p.permit_iff, p.gateIdle_zero, Device.inScope_iff, true_or, true_implies, Device.blocks,
      SectionRec.blocks_iff]
  · simp only [p.permit_iff, p.gateIdle_of_ne_zero other, Device.inScope_iff, other, false_or, Device.blocks,
      SectionRec.blocks_iff]

end Sys2Proof.Machine

/-! ## LOAD PROFILE and READ PROFILE (O37) -/

namespace Sys2Proof.Machine

/-- R118: clamping as two comparisons. -/
theorem clamp_eq_ite {lo hi : Nat} (h : lo ≤ hi) (n : Nat) :
    clamp lo hi n = if n < lo then lo else if hi < n then hi else n := by
  unfold clamp
  split
  · omega
  · split <;> omega

section
variable (p : Device) (ll orr lm lu rt : Half) (st os ot ld ls lt se : Byte)

/-- R117, R118: the profile that the parameters of LOAD PROFILE give; a byte field that may hold every byte is never
clamped. -/
theorem sentProfile_ofSent :
    (sentProfile ll orr st os ot lm lu ld ls lt rt se).ofSent =
      ⟨clamp 1 2047 ll.toNat, clamp 0 2047 orr.toNat, clamp 1 64 st.toNat,
        min (clamp 1 255 os.toNat) (clamp 1 255 ot.toNat), clamp 1 255 ot.toNat, clamp 1 32767 lm.toNat,
        clamp 1 32767 lu.toNat, ld.toNat, min (clamp 1 255 ls.toNat) (clamp 1 255 lt.toNat), clamp 1 255 lt.toNat,
        clamp 0 32767 rt.toNat, se.toNat⟩ := by
  have decay : clamp 0 255 ld.toNat = ld.toNat := clamp_eq_self (Nat.zero_le _) (by omega)
  have settle : clamp 0 255 se.toNat = se.toNat := clamp_eq_self (Nat.zero_le _) (by omega)
  simp only [sentProfile, Profile.ofSent, Profile.clampFields, Profile.orderLevels, decay, settle]

/-- R180: CLAMPED tells a profile that differs from what was sent. -/
theorem okOrClamped_of_sent (written sent : Profile) :
    (okOrClamped (decide (written ≠ sent))).byte = if written = sent then 0x00#8 else 0x01#8 := by
  by_cases same : written = sent <;> simp [same, okOrClamped, ResultCode.byte]

variable {p}

theorem Device.loadProfile_badIndex {b : Byte} (h : 8 ≤ b.toNat) (sent : Profile) :
    p.loadProfile b sent = p.refuse .badIndex := by
  simp only [Device.loadProfile, indexParam_none h]

theorem Device.loadProfile_accepted (i : ProfIx) (sent : Profile) :
    p.loadProfile (natByte i.val) sent = Device.accept { p with profiles := p.profiles.set i sent.ofSent }
      (okOrClamped (decide (sent.ofSent ≠ sent))) := by
  simp only [Device.loadProfile, profileParam]

theorem Device.readProfile_badIndex {b : Byte} (h : 8 ≤ b.toNat) : p.readProfile b = p.refuse .badIndex := by
  simp only [Device.readProfile, indexParam_none h]

theorem Device.readProfile_accepted (i : ProfIx) :
    p.readProfile (natByte i.val) = (p, [ResultCode.ok.byte] ++ (p.profiles.get i).bytes) := by
  simp only [Device.readProfile, profileParam]

end

/-- Settles O37: what was sent is clamped and ordered in `sentProfile_ofSent`; the read's bytes stand in the
profile's order. -/
theorem profileCommandsClampThenOrderAndRead : Obligations.ProfileCommandsClampThenOrderAndRead := by
  intro s ll orr lm lu rt st os ot ld ls lt se
  extract_lets p load into openTrip leakTrip openFirst leakFirst written sent
  have clamped : ∀ {lo hi : Nat}, lo ≤ hi → ∀ n, clamp lo hi n = into lo hi n := clamp_eq_ite
  have ofSent : (sentProfile ll orr st os ot lm lu ld ls lt rt se).ofSent = written := by
    simp (disch := decide) only [sentProfile_ofSent, clamped]
    rw [min_comm, min_def_lt, min_comm, min_def_lt]
  refine ⟨fun index bad => ⟨State.next_answered (Device.loadProfile_badIndex bad _),
    State.next_answered (Device.readProfile_badIndex bad)⟩, fun i => ⟨?_, ?_⟩⟩
  · have accepted := Device.loadProfile_accepted (p := p) i sent
    refine (State.next_answered accepted).trans ?_
    rw [Device.accept_fst, Device.accept_snd, okOrClamped_of_sent, ← ofSent]
    rfl
  · refine (State.next_answered (Device.readProfile_accepted (p := p) i)).trans ?_
    simp only [Profile.bytes, List.append_assoc]
    rfl

end Sys2Proof.Machine

/-! ## What a host command answers, and the Profile Table (O7) -/

namespace Sys2Proof.Machine

/-! ### Answers -/

/-- R173, R180, section 9.6: the owning block answers with 1 to 31 bytes, and moves neither the Host Port nor the
Profile Table. -/
structure Device.Answers (p : Device) (a : Answer) : Prop where
  port : a.1.port = p.port
  profiles : a.1.profiles = p.profiles
  code : 0 < a.2.length
  short : a.2.length ≤ 31

theorem Device.KeptByWork.port {p q : Device} (h : p.KeptByWork q) : q.port = p.port := by
  obtain ⟨-, -, -, -, -, port, -⟩ := h
  exact port

theorem Device.KeptByWork.profiles {p q : Device} (h : p.KeptByWork q) : q.profiles = p.profiles := by
  obtain ⟨-, -, -, -, profiles, -⟩ := h
  exact profiles

theorem Device.SameButTrip.port {p q : Device} (h : p.SameButTrip q) : q.port = p.port := h.kept.port

theorem Device.SameButTrip.profiles {p q : Device} (h : p.SameButTrip q) : q.profiles = p.profiles :=
  h.kept.profiles

@[simp] theorem Device.finishWork_port (p : Device) : p.finishWork.port = p.port := (p.finishWork_kept).1.port

namespace Device.Answers

variable {p q r : Device} {a : Answer}

/-- R180: a code alone. -/
theorem byte {c : Byte} (port : q.port = p.port) (profiles : q.profiles = p.profiles) : p.Answers (q, [c]) :=
  ⟨port, profiles, Nat.one_pos, by simp⟩

/-- A refusal, or a command that leaves the part. -/
theorem same {c : Byte} : p.Answers (p, [c]) := byte rfl rfl

/-- A code after what trips, edges and placements move. -/
theorem trip {c : Byte} (h : p.SameButTrip q) : p.Answers (q, [c]) := byte h.port h.profiles

/-- A read: the code, and bytes after it. -/
theorem read {bytes : List Byte} (h : bytes.length ≤ 30) : p.Answers (p, [ResultCode.ok.byte] ++ bytes) :=
  ⟨rfl, rfl, by simp, by simp; omega⟩

/-- R83: a command taken when the work in hand has ended. -/
theorem worked (h : p.finishWork.Answers a) : p.Answers a :=
  ⟨h.port.trans p.finishWork_port, h.profiles.trans (p.finishWork_kept).1.profiles, h.code, h.short⟩

end Device.Answers

section
variable (p : Device)

/-! Link and clock -/

theorem Device.setLinkRate_answers (rate : Byte) : p.Answers (p.setLinkRate rate) := by
  unfold Device.setLinkRate
  split
  · exact .same
  · exact .byte rfl rfl

theorem Device.setFeederId_answers (id : Byte) : p.Answers (p.setFeederId id) := by
  unfold Device.setFeederId
  split
  · exact .same
  · exact .byte rfl rfl

theorem Device.setEpochClock_answers (src per gr : Byte) (lim win : Half) (miss : Byte) :
    p.Answers (p.setEpochClock src per gr lim win miss) := by
  unfold Device.setEpochClock
  split
  · exact .same
  · exact .byte rfl rfl

theorem Device.setEpochNumber_answers (n : Half) : p.Answers (p.setEpochNumber n) := .worked (.byte rfl rfl)

theorem Device.restartEvaluation_answers : p.Answers p.restartEvaluation := by
  refine .worked ?_
  unfold Device.restartEvaluation Device.restart
  split
  · exact .same
  · exact .byte rfl rfl

/-! Nodes and strangers -/

theorem Device.bindNode_answers (node : Byte) (addr : Addr) (phs : Byte) : p.Answers (p.bindNode node addr phs) := by
  unfold Device.bindNode
  repeat' split
  all_goals exact .byte rfl rfl

theorem Device.unbindNode_answers (node : Byte) : p.Answers (p.unbindNode node) := by
  refine .worked ?_
  unfold Device.unbindNode Device.unbind
  repeat' split
  all_goals exact .byte rfl rfl

theorem Device.clearStranger_answers (slot : Byte) : p.Answers (p.clearStranger slot) := by
  unfold Device.clearStranger
  split
  · exact .same
  · exact .byte rfl rfl

/-! Sections -/

theorem Device.createSection_answers (sec up zone phs prof : Byte) :
    p.Answers (p.createSection sec up zone phs prof) := by
  unfold Device.createSection
  repeat' split
  all_goals exact .byte rfl rfl

theorem Device.editSection_answers (sec n1 n2 n3 n4 : Byte) (ta tb tc : Half) :
    p.Answers (p.editSection sec n1 n2 n3 n4 ta tb tc) := by
  unfold Device.editSection
  repeat' split
  all_goals exact .byte rfl rfl

theorem Device.commitSection_answers (sec : Byte) : p.Answers (p.commitSection sec) := by
  unfold Device.commitSection
  repeat' split
  case h_2.isFalse.isFalse => exact .trip (p.place_sameButTrip _ _)
  all_goals exact .same

theorem Device.recallSection_answers (sec : Byte) : p.Answers (p.recallSection sec) := by
  unfold Device.recallSection
  repeat' split
  all_goals exact .byte rfl rfl

theorem Device.tuneSection_answers (sec profile : Byte) (ta tb tc : Half) :
    p.Answers (p.tuneSection sec profile ta tb tc) := by
  unfold Device.tuneSection
  dsimp only
  repeat' split
  all_goals exact .byte rfl rfl

theorem Device.acknowledgeSection_answers (sec : Byte) : p.Answers (p.acknowledgeSection sec) := by
  unfold Device.acknowledgeSection
  repeat' split
  case h_2.isTrue => exact .trip (p.place_sameButTrip _ _)
  all_goals exact .same

theorem Device.retireSection_answers (sec : Byte) : p.Answers (p.retireSection sec) := by
  unfold Device.retireSection
  repeat' split
  all_goals exact .byte rfl rfl

/-! Zones and alerts -/

theorem Device.setZoneCommand_answers (zone hz te ee : Byte) (tmo : Half) (db pol : Byte) :
    p.Answers (p.setZoneCommand zone hz te ee tmo db pol) := by
  unfold Device.setZoneCommand
  split
  · exact .same
  · split
    · exact .same
    · exact .trip (p.applyZone_sameButTrip _ _)

theorem Device.tripZone_answers (zone : Byte) : p.Answers (p.tripZone zone) := by
  unfold Device.tripZone
  dsimp only
  repeat' split
  all_goals exact .byte rfl rfl

theorem Device.releaseTrip_answers (zone : Byte) : p.Answers (p.releaseTrip zone) := by
  unfold Device.releaseTrip
  repeat' split
  all_goals exact .byte rfl rfl

theorem Device.holdPermit_answers (zone hold : Byte) : p.Answers (p.holdPermit zone hold) := by
  unfold Device.holdPermit
  repeat' split
  all_goals exact .byte rfl rfl

theorem Device.clearAlerts_answers (mask : Byte) : p.Answers (p.clearAlerts mask) := by
  unfold Device.clearAlerts
  split <;> exact .byte rfl rfl

theorem Device.setAlertEnable_answers (mask : Byte) : p.Answers (p.setAlertEnable mask) := by
  unfold Device.setAlertEnable
  split <;> exact .byte rfl rfl

theorem Device.senseOutcome_answers : p.Answers p.senseOutcome := by
  unfold Device.senseOutcome
  split
  · exact .same
  · cases (p.zones.get _).latch <;> exact ⟨rfl, rfl, by simp, by simp [OutcomeRec.bytes]⟩

/-! Reads -/

theorem Device.readProfile_answers (index : Byte) : p.Answers (p.readProfile index) := by
  unfold Device.readProfile
  split
  · exact .same
  · exact .read (by simp [Profile.bytes, natHalf, halfBytes])

theorem Device.readNode_answers (node : Byte) : p.Answers (p.readNode node) := by
  unfold Device.readNode
  split
  · exact .same
  · exact .read (by simp [Node.bytes, addrBytes, epochBytes, halfBytes])

theorem strangerBytes_length (g : Option Sighting) : (strangerBytes g).length = 8 := by
  cases g <;> simp [strangerBytes, addrBytes, halfBytes]

theorem Device.readStrangers_answers : p.Answers p.readStrangers :=
  ⟨rfl, rfl, by simp [Device.readStrangers], by simp [Device.readStrangers, strangerBytes_length]⟩

/-- R185: a record's thirty bytes. -/
theorem SectionRec.bytes_length (r : SectionRec) : r.bytes.length = 30 := by
  unfold SectionRec.bytes
  split
  · simp
  · simp [SectionRec.liveBytes, downstreamBytes, natHalf, epochBytes, halfBytes]

theorem Device.readSection_answers (sec : Byte) : p.Answers (p.readSection sec) := by
  unfold Device.readSection
  split
  · exact .same
  · exact .read (SectionRec.bytes_length _).le

theorem Device.scanSections_answers (start field comparison key : Byte) :
    p.Answers (p.scanSections start field comparison key) := by
  unfold Device.scanSections
  repeat' split
  · exact .same
  · exact .same
  · exact .same
  · exact .read (by simp [SectionRec.scanBytes])
  · exact .same

theorem Device.readZone_answers (zone : Byte) : p.Answers (p.readZone zone) := by
  unfold Device.readZone
  split
  · exact .same
  · exact .read (by simp [Device.zoneBytes, natHalf, halfBytes])

theorem Device.readLinkCounters_answers : p.Answers p.readLinkCounters :=
  ⟨rfl, rfl, by simp [Device.readLinkCounters],
    by simp [Device.readLinkCounters, LinkCounters.bytes, natHalf, halfBytes, addrBytes]⟩

theorem Device.readEpochClock_answers : p.Answers p.readEpochClock :=
  ⟨rfl, rfl, by simp [Device.readEpochClock], by simp [Device.readEpochClock, natHalf, halfBytes]⟩

theorem Device.readDevice_answers : p.Answers p.readDevice :=
  ⟨rfl, rfl, by simp [Device.readDevice], by simp [Device.readDevice, natHalf, halfBytes]⟩

end

/-- LOAD PROFILE, the one host command that writes the Profile Table. -/
def loadsProfile : Instr → Prop
  | .loadProfile .. => True
  | _ => False

/-- R173: every other host command is answered in 1 to 31 bytes, port and profiles standing. -/
theorem exec_hostCommand {c : Instr} (s : State) (hc : hostCommand c) (hl : ¬ loadsProfile c) :
    ∃ a, s.device.Answers a ∧ exec c s = .next (s.answered a.1 a.2) := by
  cases c with
  | loadProfile => exact absurd trivial hl
  | setLinkRate => exact ⟨_, s.device.setLinkRate_answers _, rfl⟩
  | setJoinFilter v m => exact ⟨s.device.setJoinFilter v m, .byte rfl rfl, rfl⟩
  | setFeederId => exact ⟨_, s.device.setFeederId_answers _, rfl⟩
  | readLinkCounters => exact ⟨_, s.device.readLinkCounters_answers, rfl⟩
  | setEpochClock => exact ⟨_, s.device.setEpochClock_answers _ _ _ _ _ _, rfl⟩
  | readEpochClock => exact ⟨_, s.device.readEpochClock_answers, rfl⟩
  | setEpochNumber => exact ⟨_, s.device.setEpochNumber_answers _, rfl⟩
  | restartEvaluation => exact ⟨_, s.device.restartEvaluation_answers, rfl⟩
  | readProfile => exact ⟨_, s.device.readProfile_answers _, rfl⟩
  | bindNode => exact ⟨_, s.device.bindNode_answers _ _ _, rfl⟩
  | unbindNode => exact ⟨_, s.device.unbindNode_answers _, rfl⟩
  | readNode => exact ⟨_, s.device.readNode_answers _, rfl⟩
  | readStrangers => exact ⟨_, s.device.readStrangers_answers, rfl⟩
  | clearStranger => exact ⟨_, s.device.clearStranger_answers _, rfl⟩
  | createSection => exact ⟨_, s.device.createSection_answers _ _ _ _ _, rfl⟩
  | editSection => exact ⟨_, s.device.editSection_answers _ _ _ _ _ _ _ _, rfl⟩
  | commitSection => exact ⟨_, s.device.commitSection_answers _, rfl⟩
  | recallSection => exact ⟨_, s.device.recallSection_answers _, rfl⟩
  | tuneSection => exact ⟨_, s.device.tuneSection_answers _ _ _ _ _, rfl⟩
  | acknowledgeSection => exact ⟨_, s.device.acknowledgeSection_answers _, rfl⟩
  | retireSection => exact ⟨_, s.device.retireSection_answers _, rfl⟩
  | readSection => exact ⟨_, s.device.readSection_answers _, rfl⟩
  | scanSections => exact ⟨_, s.device.scanSections_answers _ _ _ _, rfl⟩
  | setZone => exact ⟨_, s.device.setZoneCommand_answers _ _ _ _ _ _ _, rfl⟩
  | readZone => exact ⟨_, s.device.readZone_answers _, rfl⟩
  | tripZone => exact ⟨_, s.device.tripZone_answers _, rfl⟩
  | releaseTrip => exact ⟨_, s.device.releaseTrip_answers _, rfl⟩
  | senseOutcome => exact ⟨_, s.device.senseOutcome_answers, rfl⟩
  | holdPermit => exact ⟨_, s.device.holdPermit_answers _ _, rfl⟩
  | clearAlerts => exact ⟨_, s.device.clearAlerts_answers _, rfl⟩
  | setAlertEnable => exact ⟨_, s.device.setAlertEnable_answers _, rfl⟩
  | readDevice => exact ⟨_, s.device.readDevice_answers, rfl⟩
  | _ => exact absurd hc Bool.false_ne_true

/-! ### The Profile Table through every row (O7) -/

/-- R116: the Profile Table stands. -/
def Device.SameProfiles (p q : Device) : Prop := q.profiles = p.profiles

/-- Closes, edges and timers do not write it. -/
theorem Device.SameProfiles.eventLaw : EventLaw Device.SameProfiles :=
  WorkLaw.eventLaw
    { refl := fun _ => rfl
      trans := fun h k => k.trans h
      frame := fun h => h.profiles
      nodeWork := fun c p => (p.nodeWork_kept c).1.profiles
      recordWork := fun c p i => (p.recordWork_sameButTrip c i).profiles }
    (fun p z level => (p.becomeStable_sameButTrip z level).profiles) fun p z _ => (p.timeout_sameButTrip z).profiles

/-- A row that writes a table comes from the host, or is a reset. -/
theorem hostCommand_of_writesTable {c : Instr} (h : writesTable c) (hr : ¬ resetRow c) : hostCommand c := by
  cases c with
  | powerOnReset | rstNReset => exact absurd trivial hr
  | restartEvaluation | loadProfile | bindNode | unbindNode | clearStranger | createSection | editSection
  | commitSection | recallSection | tuneSection | acknowledgeSection | retireSection | setZone | tripZone
  | releaseTrip => rfl
  | _ => exact absurd h id

/-- R116: no row but LOAD PROFILE and the resets writes the Profile Table. -/
theorem exec_sameProfiles {s t : State} {c : Instr} (h : exec c s = .next t) (hr : ¬ resetRow c)
    (hl : ¬ loadsProfile c) : t.device.profiles = s.device.profiles := by
  by_cases hw : writesTable c
  · obtain ⟨a, answers, answered⟩ := exec_hostCommand s (hostCommand_of_writesTable hw hr) hl
    cases h.symm.trans answered
    rw [State.answered_profiles, answers.profiles]
  · exact Device.SameProfiles.eventLaw.exec h hw

/-- Settles O7: the two resets by their definition, and every other row by `exec_sameProfiles`. -/
theorem profileTableKeepsWhatWasLoaded : Obligations.ProfileTableKeepsWhatWasLoaded := by
  refine ⟨fun pins s => ⟨⟨_, rfl, Table.get_replicate _⟩,
    ⟨_, rfl, rfl, rfl, rfl, fun i => congrArg SectionRec.state (Table.get_replicate _ i)⟩,
    fun n t h => exec_sameProfiles h id id, fun t h => exec_sameProfiles h id id⟩, fun s t c h power load => ?_⟩
  cases c with
  | powerOnReset pins => exact absurd rfl (power pins)
  | loadProfile => exact absurd rfl (load _ _ _ _ _ _ _ _ _ _ _ _ _)
  | rstNReset => cases h; rfl
  | _ => exact exec_sameProfiles h id id

end Sys2Proof.Machine

/-! ## Every step keeps the laws of the Profile Table, the Epoch Clock, the Link Receiver and the Host Port (O56)

Each law speaks of one block. Few rows move a block, and each moves it by one of a few functions of the block alone:
that these keep the law is shown first, and the rows follow. -/

namespace Sys2Proof.Machine

/-- The part's own work on an empty queue moves the present moment and the count of choices, and keeps what closes
keep. -/
theorem State.idle_kept (s : State) :
    ∃ now choices, Device.KeptByWork { s.device with now := now, choices := choices } s.idle.device := by
  unfold State.idle State.choose
  repeat' split
  · exact ⟨_, _, .refl _⟩
  · exact ⟨_, _, s.device.workPiece_kept⟩
  · exact ⟨_, _, .refl _⟩
  · exact ⟨_, _, .refl s.device.chosen⟩
  · exact ⟨_, _, s.device.chosen.workPiece_kept⟩

/-! ### The Profile Table (R115, R118) -/

/-- R118: whatever was sent, the two stages leave a lawful profile. -/
theorem Profile.ofSent_lawful (sent : Profile) : sent.ofSent.lawful := by
  simp only [Profile.lawful, Profile.ofSent, Profile.clampFields, Profile.orderLevels, clamp]
  omega

/-- R115. -/
theorem Profile.default_lawful : Profile.default.lawful := by
  simp [Profile.lawful, Profile.default]

theorem Device.loadProfile_lawful {p : Device} (h : p.profilesLawful) (index : Byte) (sent : Profile) :
    (p.loadProfile index sent).1.profilesLawful := by
  unfold Device.loadProfile
  split
  · exact h
  · intro j
    rw [Device.accept_fst, Table.get_set]
    split
    · exact sent.ofSent_lawful
    · exact h j

theorem exec_profilesLawful {s t : State} {c : Instr} (e : exec c s = .next t) (h : s.device.profilesLawful) :
    t.device.profilesLawful := by
  cases c with
  | powerOnReset pins =>
    cases e
    intro i
    exact (congrArg Profile.lawful (Table.get_replicate Profile.default i)).mpr Profile.default_lawful
  | rstNReset pins => cases e; exact h
  | loadProfile =>
    cases e
    intro i
    exact (congrArg (fun t => (t.get i).lawful) (State.answered_profiles s _ _)).mpr
      (Device.loadProfile_lawful h _ _ i)
  | _ => intro i; rw [exec_sameProfiles e id id]; exact h i

/-! ### The Epoch Clock (R68 to R74) -/

theorem countUp_le (n : Nat) : countUp n ≤ 65535 := Nat.min_le_left _ _

theorem countUp_pos (n : Nat) : 0 < countUp n := by
  unfold countUp
  omega

namespace EpochClock.lawful

variable {c : EpochClock} {now : Moment}

/-- R70: an interval begins under settings in range. -/
theorem begin (h : c.lawful) (runs : c.lock ≠ .acquiring) : (c.begin now).lawful := by
  obtain ⟨settings, -, timer, source, held, lost, count, glitches⟩ := h
  have ⟨⟨_, period⟩, ⟨grace, _, half⟩, _⟩ := settings
  exact ⟨settings, ⟨period, grace, half⟩, by simp [EpochClock.begin, runs], source, held, lost, count, glitches⟩

/-- R71, R73: a pulse that locks the clock. -/
theorem relock (h : c.lawful) (outside : c.lock ≠ .free) : (c.relock now).lawful := by
  obtain ⟨settings, -, -, source, -, -, -, glitches⟩ := h
  have ⟨⟨_, period⟩, ⟨grace, _, half⟩, _⟩ := settings
  have external : c.settings.source ≠ .internal := fun e => outside (source.mp e)
  exact ⟨settings, ⟨period, grace, half⟩, by simp [EpochClock.relock, EpochClock.begin],
    by simpa [EpochClock.relock, EpochClock.begin] using external, by simp [EpochClock.relock],
    by simp [EpochClock.relock], Nat.zero_le _, glitches⟩

/-- R72 to R74: an internal tick with the external source, the count of them above 0. -/
theorem heldOver (h : c.lawful) (outside : c.lock ≠ .free) {n : Nat} (positive : 0 < n) (bounded : n ≤ 65535)
    (lost : Bool) :
    EpochClock.lawful { c.begin now with lock := .holdover, holdover := n, syncLost := lost } := by
  obtain ⟨settings, -, -, source, -, -, -, glitches⟩ := h
  have ⟨⟨_, period⟩, ⟨grace, _, half⟩, _⟩ := settings
  have external : c.settings.source ≠ .internal := fun e => outside (source.mp e)
  exact ⟨settings, ⟨period, grace, half⟩, by simp [EpochClock.begin],
    by simpa [EpochClock.begin] using external, by simp [positive], fun _ => rfl, bounded, glitches⟩

theorem glitch (h : c.lawful) : c.glitch.lawful := by
  obtain ⟨settings, run, timer, source, held, lost, count, -⟩ := h
  exact ⟨settings, run, timer, source, held, lost, count, countUp_le _⟩

/-- The laws do not speak of the epoch number. -/
theorem withEpoch (h : c.lawful) (n : Half) : EpochClock.lawful { c with epoch := n } := h

end EpochClock.lawful

/-- R69: whatever was sent, the settings written are in range. -/
theorem clockSettings_lawful (src : ClockSource) (period grace limit window miss : Nat) :
    (clockSettings src period grace limit window miss).lawful := by
  simp only [ClockSettings.lawful, clockSettings, clamp]
  omega

/-- R69, R70: new settings, and the lock state that a new source brings. -/
theorem EpochClock.apply_lawful {c : EpochClock} (h : c.lawful) {new : ClockSettings} (hn : new.lawful)
    (now : Moment) : (c.apply now new).lawful := by
  obtain ⟨-, run, timer, source, held, lost, count, glitches⟩ := h
  cases was : c.settings.source <;> cases becomes : new.source
  case external.external | internal.internal =>
    rw [EpochClock.apply_same now (was.trans becomes.symm)]
    refine ⟨hn, run, timer, ?_, held, lost, count, glitches⟩
    rw [← source, was, becomes]
  case external.internal =>
    have ⟨⟨_, period⟩, ⟨grace, _, half⟩, _⟩ := hn
    rw [EpochClock.apply_internal now was becomes]
    exact ⟨hn, ⟨period, grace, half⟩, by simp, by simp [becomes], by simp, by simp, Nat.zero_le _, glitches⟩
  case internal.external =>
    rw [EpochClock.apply_external now was becomes]
    exact ⟨hn, run, by simp, by simp [becomes], by simp, by simp, Nat.zero_le _, glitches⟩

section
variable {p : Device} (h : p.clock.lawful)
include h

/-- R71 to R73, R75: a pulse. -/
theorem Device.syncPulse_clockLawful : p.syncPulse.clock.lawful := by
  have ticked : ∀ f : EpochClock → EpochClock, (f p.clock).lawful → (p.withClock f).tick.clock.lawful := fun f k => by
    rw [Device.tick_clock]
    exact k.withEpoch _
  unfold Device.syncPulse
  split
  · rename_i lock
    exact ticked _ (h.relock (by simp [lock]))
  · rename_i lock _
    unfold Device.pulseLocked
    repeat' split
    · exact h.glitch
    · exact ticked _ (h.begin (by simp [lock]))
    · exact h
  · rename_i lock _
    unfold Device.pulseHoldover
    repeat' split
    · exact h.relock (by simp [lock])
    · exact h.glitch
    · exact ticked _ (h.relock (by simp [lock]))
    · exact h
  all_goals exact h

/-- R72, R74. -/
theorem Device.enterHoldover_clockLawful (lock : p.clock.lock = .locked) : p.enterHoldover.clock.lawful := by
  rw [Device.enterHoldover, Device.tick_clock, Device.checkSyncLost_eq]
  exact h.heldOver (by simp [lock]) Nat.one_pos (by omega) _

/-- R73, R74. -/
theorem Device.holdoverTick_clockLawful (lock : p.clock.lock = .holdover) : p.holdoverTick.clock.lawful := by
  rw [Device.holdoverTick, Device.tick_clock, Device.checkSyncLost_eq]
  have ticked := h.heldOver (now := p.now) (by simp [lock]) (countUp_pos p.clock.holdover) (countUp_le _)
    (p.clock.syncLost || decide (p.clock.settings.holdoverLimit ≤ countUp p.clock.holdover))
  rw [← lock] at ticked
  exact ticked

/-- R75. -/
theorem Device.freeTick_clockLawful (lock : p.clock.lock = .free) : p.freeTick.clock.lawful := by
  rw [Device.freeTick, Device.tick_clock]
  exact h.begin (by simp [lock])

/-- R69, R70: SET EPOCH CLOCK. -/
theorem Device.setEpochClock_clockLawful (src per gr : Byte) (lim win : Half) (miss : Byte) :
    (p.setEpochClock src per gr lim win miss).1.clock.lawful := by
  unfold Device.setEpochClock
  split
  · exact h
  · exact EpochClock.apply_lawful h (clockSettings_lawful _ _ _ _ _ _) _

end

/-- R68, R69. -/
theorem EpochClock.afterReset_lawful : EpochClock.afterReset.lawful := by
  simp [EpochClock.lawful, ClockSettings.lawful, EpochClock.afterReset, ClockSettings.default]

theorem exec_clockLawful {s t : State} {c : Instr} (e : exec c s = .next t) (h : s.device.clock.lawful) :
    t.device.clock.lawful := by
  have passed : ∀ m, (s.device.passTo m).clock.lawful := fun m => by rwa [Device.passTo_clock]
  by_cases moves : movesClock c
  · cases c with
    | powerOnReset | rstNReset => cases e; exact EpochClock.afterReset_lawful
    | syncPulse m => cases e; exact Device.syncPulse_clockLawful (passed m)
    | syncTimerExpiry =>
      cases e
      dsimp only
      split
      · exact Device.enterHoldover_clockLawful (passed _) (by rw [Device.passTo_clock]; assumption)
      · exact h
    | holdoverTick =>
      cases e
      dsimp only
      split
      · exact Device.holdoverTick_clockLawful (passed _) (by rw [Device.passTo_clock]; assumption)
      · exact h
    | freeTick =>
      cases e
      dsimp only
      split
      · exact Device.freeTick_clockLawful (passed _) (by rw [Device.passTo_clock]; assumption)
      · exact h
    | setEpochClock =>
      cases e
      exact (congrArg EpochClock.lawful (State.answered_clock s _ _)).mpr
        (Device.setEpochClock_clockLawful h _ _ _ _ _ _)
    | setEpochNumber n =>
      cases e
      refine (congrArg EpochClock.lawful (State.answered_clock s _ _)).mpr (EpochClock.lawful.withEpoch ?_ n)
      rwa [Device.freeSlots_clock, Device.finishWork_clock]
    | _ => exact absurd moves id
  · rwa [exec_clock e moves]

/-! ### The Link Receiver (R52 to R67) -/

/-- R52, R60, R63, R65: what the laws say of a receiver whatever its frame and its gap timer. -/
structure LinkReceiver.Sound (l : LinkReceiver) : Prop where
  counters : l.counters.lawful
  low : l.lowAt.isSome → l.inChar = false
  feederId : l.feederId ≤ 63
  amnesia : l.amnesia = true ↔ l.feederId = 63

theorem LinkReceiver.lawful_iff (l : LinkReceiver) :
    l.lawful ↔ l.Sound ∧ l.frameLawful ∧ (l.gapFrom.isSome ↔ l.rx ≠ .hunt ∧ l.inChar = false) :=
  ⟨fun ⟨counters, frame, gap, low, feederId, amnesia⟩ => ⟨⟨counters, low, feederId, amnesia⟩, frame, gap⟩,
    fun ⟨⟨counters, low, feederId, amnesia⟩, frame, gap⟩ => ⟨counters, frame, gap, low, feederId, amnesia⟩⟩

namespace LinkReceiver.Sound

variable {l : LinkReceiver} (h : l.Sound)
include h

/-- R54, R57: in HUNT no frame is held and no gap timer runs. -/
theorem hunting (rx : l.rx = .hunt) (body : l.body = []) (gap : l.gapFrom = none) : l.lawful :=
  l.lawful_iff.mpr ⟨h, by simpa only [LinkReceiver.frameLawful, rx] using body, by simp [rx, gap]⟩

/-- R57: between the characters of a frame the gap timer runs. -/
theorem running (rx : l.rx ≠ .hunt) (frame : l.frameLawful) (idle : l.inChar = false) (gap : l.gapFrom.isSome) :
    l.lawful :=
  l.lawful_iff.mpr ⟨h, frame, by simp [rx, idle, gap]⟩

/-- R57: inside a character it does not. -/
theorem receiving (frame : l.frameLawful) (inChar : l.inChar = true) (gap : l.gapFrom = none) : l.lawful :=
  l.lawful_iff.mpr ⟨h, frame, by simp [inChar, gap]⟩

theorem toHunt : l.toHunt.lawful :=
  LinkReceiver.Sound.hunting ⟨h.counters, h.low, h.feederId, h.amnesia⟩ rfl rfl rfl

/-- R63: counters counted up. -/
theorem withCounters {c : LinkCounters} (hc : c.lawful) : LinkReceiver.Sound { l with counters := c } :=
  ⟨hc, h.low, h.feederId, h.amnesia⟩

end LinkReceiver.Sound

/-- R63: the laws speak of the counters by themselves. -/
theorem LinkReceiver.lawful.withCounters {l : LinkReceiver} (h : l.lawful) {c : LinkCounters} (hc : c.lawful) :
    LinkReceiver.lawful { l with counters := c } := by
  obtain ⟨sound, frame, gap⟩ := l.lawful_iff.mp h
  exact (LinkReceiver.lawful_iff _).mpr ⟨sound.withCounters hc, frame, gap⟩

/-- R63: a way of counting that keeps every counter in range. -/
def LinkCounters.Saturates (f : LinkCounters → LinkCounters) : Prop := ∀ c, c.lawful → (f c).lawful

/-- R63: each of the nine ways of counting saturates. -/
theorem LinkCounters.saturates :
    (Saturates countCrcErr ∧ Saturates countFormatErr ∧ Saturates countGapAbort)
      ∧ (Saturates countUnsupported ∧ Saturates countForeign ∧ Saturates countUnknown)
      ∧ Saturates countLate ∧ Saturates countEarly ∧ Saturates countDuplicate := by
  refine ⟨⟨?_, ?_, ?_⟩, ⟨?_, ?_, ?_⟩, ?_, ?_, ?_⟩
  all_goals
    rintro c ⟨crcErr, formatErr, gapAbort, unsupported, foreign, unknown, late, early, duplicate⟩
    simp [LinkCounters.lawful, countCrcErr, countFormatErr, countGapAbort, countUnsupported, countForeign,
      countUnknown, countLate, countEarly, countDuplicate, countUp_le, *]

section
variable {p : Device}

/-- R79: a report counts at most one of LATE, EARLY and DUPLICATE. -/
theorem Device.storeReport_linkLawful (h : p.link.lawful) (e : Half) (rep : StoredReport) :
    (p.storeReport e rep).link.lawful := by
  obtain ⟨-, -, late, early, duplicate⟩ := LinkCounters.saturates
  have worked : p.finishWork.link.lawful := by rwa [Device.finishWork_link]
  have ⟨counters, _⟩ := worked
  unfold Device.storeReport Device.takeReport
  repeat' split
  · exact worked.withCounters (early _ counters)
  · exact worked.withCounters (late _ counters)
  · exact worked.withCounters (duplicate _ counters)
  · exact worked

/-- R59 to R63: a complete frame counts, is sighted or is handed on. -/
theorem Device.checkFrame_linkLawful (h : p.link.lawful) (len : Byte) (body : List Byte) (crc : Half) :
    (p.checkFrame len body crc).link.lawful := by
  obtain ⟨⟨crcErr, formatErr, -⟩, ⟨unsupported, foreign, unknown⟩, -⟩ := LinkCounters.saturates
  have ⟨counters, _⟩ := h
  unfold Device.checkFrame
  repeat' split
  · exact h.withCounters (crcErr _ counters)
  · exact h.withCounters (unsupported _ counters)
  · exact h.withCounters (formatErr _ counters)
  · exact h.withCounters (foreign _ counters)
  · rwa [Device.sight_link]
  · exact h.withCounters (unknown _ counters)
  · exact h.withCounters (formatErr _ counters)
  · exact Device.storeReport_linkLawful h _ _

section
variable (h : p.link.Sound)
include h

/-- R52, R55, R57: a frame abandoned. -/
theorem Device.abandonFrame_linkLawful {f : LinkCounters → LinkCounters} (hf : LinkCounters.Saturates f) :
    (p.abandonFrame f).link.lawful :=
  h.toHunt.withCounters (hf _ h.counters)

theorem Device.framingError_linkLawful : p.framingError.link.lawful := by
  obtain ⟨⟨-, formatErr, -⟩, -⟩ := LinkCounters.saturates
  unfold Device.framingError
  split
  · exact Device.abandonFrame_linkLawful h formatErr
  · exact h.toHunt

theorem Device.gapExpire_linkLawful : p.gapExpire.link.lawful := by
  obtain ⟨⟨-, -, gapAbort⟩, -⟩ := LinkCounters.saturates
  unfold Device.gapExpire
  split
  · exact Device.abandonFrame_linkLawful h gapAbort
  · exact h.toHunt

/-- R54 to R62: a byte moves the frame receiver, each state to the next with what that one holds of a frame. -/
theorem Device.rxByte_linkLawful (frame : p.link.frameLawful) (idle : p.link.inChar = false)
    (gap : p.link.gapFrom = none) (b : Byte) : (p.rxByte b).link.lawful := by
  obtain ⟨⟨-, formatErr, -⟩, -⟩ := LinkCounters.saturates
  have ⟨counters, low, feederId, amnesia⟩ := h
  have sound : ∀ rx len body crc from_, LinkReceiver.Sound
      { p.link with rx := rx, lenByte := len, body := body, crcHigh := crc, gapFrom := from_ } :=
    fun _ _ _ _ _ => ⟨counters, low, feederId, amnesia⟩
  cases rx : p.link.rx with
  | hunt =>
    have body : p.link.body = [] := by simpa only [LinkReceiver.frameLawful, rx] using frame
    rw [Device.rxByte_hunt rx]
    split
    · exact (sound .sync1 _ _ _ (some p.now)).running nofun body idle rfl
    · exact h.hunting rx body gap
  | sync1 =>
    have body : p.link.body = [] := by simpa only [LinkReceiver.frameLawful, rx] using frame
    rw [Device.rxByte_sync1 rx]
    repeat' split
    · exact (sound .length _ _ _ (some p.now)).running nofun body idle rfl
    · exact (sound .sync1 _ _ _ (some p.now)).running nofun body idle rfl
    · exact h.toHunt
  | length =>
    rw [Device.rxByte_length rx]
    split
    · rename_i range
      exact (sound .body b [] _ (some p.now)).running nofun range idle rfl
    · exact Device.abandonFrame_linkLawful h formatErr
  | body =>
    obtain ⟨short, bounded⟩ : p.link.body.length < p.link.lenByte.toNat ∧ p.link.lenByte.toNat ≤ 32 := by
      simpa only [LinkReceiver.frameLawful, rx] using frame
    have longer : (p.link.body ++ [b]).length = p.link.body.length + 1 := List.length_append
    rw [Device.rxByte_body rx, Device.withLink_link]
    rcases Nat.lt_or_eq_of_le (Nat.succ_le_of_lt short) with more | last
    · rw [LinkReceiver.bodyByteIn_more rx more]
      refine LinkReceiver.Sound.running ⟨counters, low, feederId, amnesia⟩ (by simp [rx]) ?_ idle rfl
      simp only [LinkReceiver.frameLawful, rx]
      omega
    · rw [LinkReceiver.bodyByteIn_last last]
      refine (sound .crcHigh _ _ _ (some p.now)).running nofun ?_ idle rfl
      simp only [LinkReceiver.frameLawful]
      omega
  | crcHigh =>
    have whole : p.link.body.length = p.link.lenByte.toNat ∧ 1 ≤ p.link.lenByte.toNat
        ∧ p.link.lenByte.toNat ≤ 32 := by
      simpa only [LinkReceiver.frameLawful, rx] using frame
    rw [Device.rxByte_crcHigh rx]
    exact (sound .crcLow _ _ b (some p.now)).running nofun whole idle rfl
  | crcLow =>
    rw [Device.rxByte_crcLow rx]
    exact Device.checkFrame_linkLawful h.toHunt _ _ _

end

section
variable (h : p.link.lawful)
include h

/-- R52, R54 to R62: a character. -/
theorem Device.characterReceived_linkLawful (stop : Bool) (b : Byte) :
    (p.characterReceived stop b).link.lawful := by
  obtain ⟨⟨counters, -, feederId, amnesia⟩, frame, gap⟩ := p.link.lawful_iff.mp h
  cases inChar : p.link.inChar with
  | false => rwa [Device.characterReceived, if_neg (by simp [inChar])]
  | true =>
    have sound : ∀ lowAt, (p.stopBit lowAt).link.Sound := fun _ => ⟨counters, fun _ => rfl, feederId, amnesia⟩
    have stopped : p.link.gapFrom = none := by simpa [inChar] using gap
    cases stop with
    | true =>
      rw [Device.characterReceived_high inChar]
      exact Device.rxByte_linkLawful (sound _) frame rfl stopped b
    | false =>
      rw [Device.characterReceived_low inChar]
      exact Device.framingError_linkLawful (sound _)

/-- R52, R57: a start bit. -/
theorem Device.startBit_linkLawful : p.startBit.link.lawful := by
  obtain ⟨sound, -⟩ := p.link.lawful_iff.mp h
  have started : ∀ q : Device, q.link.lawful → LinkReceiver.lawful
      { q.link with inChar := true, lowAt := none, gapFrom := none } := fun q k => by
    obtain ⟨⟨counters, -, feederId, amnesia⟩, frame, -⟩ := q.link.lawful_iff.mp k
    exact LinkReceiver.Sound.receiving ⟨counters, nofun, feederId, amnesia⟩ frame rfl rfl
  unfold Device.startBit
  repeat' split
  · exact started _ (Device.gapExpire_linkLawful sound)
  · exact started _ h
  · exact h

/-- R57: the gap timer's expiry. -/
theorem Device.gapTimerExpiry_linkLawful : p.gapTimerExpiry.link.lawful := by
  obtain ⟨sound, -⟩ := p.link.lawful_iff.mp h
  unfold Device.gapTimerExpiry
  split
  · exact Device.gapExpire_linkLawful (by rwa [Device.passTo_link])
  · exact h

/-- R53: SET LINK RATE. -/
theorem Device.setLinkRate_linkLawful (rate : Byte) : (p.setLinkRate rate).1.link.lawful := by
  obtain ⟨⟨counters, -, feederId, amnesia⟩, -⟩ := p.link.lawful_iff.mp h
  unfold Device.setLinkRate
  split
  · exact h
  · exact LinkReceiver.Sound.hunting ⟨counters, fun _ => rfl, feederId, amnesia⟩ rfl rfl rfl

/-- R67: SET FEEDER ID. -/
theorem Device.setFeederId_linkLawful (id : Byte) : (p.setFeederId id).1.link.lawful := by
  obtain ⟨⟨counters, low, -⟩, frame, gap⟩ := p.link.lawful_iff.mp h
  unfold Device.setFeederId
  split
  · exact h
  · rename_i usable
    have below : id.toNat < 63 := Nat.lt_of_not_le usable
    exact ⟨counters, frame, gap, low, below.le, by simp [below.ne]⟩

end

end

/-- R63, R64. -/
theorem LinkCounters.zero_lawful : LinkCounters.zero.lawful := by
  simp [LinkCounters.lawful, LinkCounters.zero]

/-- R52, R65: the receiver that a reset leaves. -/
theorem LinkReceiver.afterReset_lawful (pins : ResetPins) : (LinkReceiver.afterReset pins).lawful := by
  refine LinkReceiver.Sound.hunting ⟨LinkCounters.zero_lawful, nofun, ?_, ?_⟩ rfl rfl rfl
  all_goals
    by_cases good : resetIdentityGood pins = true
    · obtain ⟨-, small⟩ := (resetIdentityGood_iff pins).mp good
      simp [LinkReceiver.afterReset, good]
      omega
    · simp [LinkReceiver.afterReset, good, Config.amnesiaId]

theorem exec_linkLawful {s t : State} {c : Instr} (e : exec c s = .next t) (h : s.device.link.lawful) :
    t.device.link.lawful := by
  have passed : ∀ m, (s.device.passTo m).link.lawful := fun m => by rwa [Device.passTo_link]
  have answered : ∀ a : Answer, a.1.link.lawful → (s.answered a.1 a.2).device.link.lawful := fun a k => by
    rwa [State.answered_link]
  by_cases moves : movesLink c
  · cases c with
    | powerOnReset pins | rstNReset pins => cases e; exact LinkReceiver.afterReset_lawful pins
    | characterReceived m stop b => cases e; exact Device.characterReceived_linkLawful (passed m) stop b
    | startBit m => cases e; exact Device.startBit_linkLawful (passed m)
    | gapTimerExpiry => cases e; exact Device.gapTimerExpiry_linkLawful h
    | setLinkRate rate => cases e; exact answered _ (Device.setLinkRate_linkLawful h rate)
    | setJoinFilter value mask => cases e; exact answered (s.device.setJoinFilter value mask) h
    | setFeederId b => cases e; exact answered _ (Device.setFeederId_linkLawful h b)
    | readLinkCounters =>
      cases e
      exact answered s.device.readLinkCounters (h.withCounters LinkCounters.zero_lawful)
    | _ => exact absurd moves id
  · rwa [exec_link e moves]

end Sys2Proof.Machine

namespace Sys2Proof

/-! ### Complete commands (R171, R172) -/

/-- Section 9.6: a code byte with as many parameter bytes as it fixes is a command. -/
theorem decodeCommand_isSome {code : Byte} {ps : List Byte} (h : paramCount code = some ps.length) :
    (decodeCommand (code :: ps)).isSome = true := by
  unfold paramCount at h
  split at h
  case h_34 => cases h
  all_goals
    rename_i known
    have bytes := (Option.some.inj h).symm
    clear h
    simp only [List.length_eq_succ_iff, List.length_eq_zero_iff] at bytes
    repeat obtain ⟨_, bytes⟩ := bytes
    subst_vars
    rw [decodeCommand, known]
    rfl

end Sys2Proof

namespace Sys2Proof.Machine

/-! ### The Host Port through the part's own events -/

@[simp] theorem Device.passTo_port (p : Device) (t : Moment) : (p.passTo t).port = p.port := (p.passTo_kept t).port

@[simp] theorem Device.tick_port (p : Device) : p.tick.port = p.port := (p.tick_kept).port

section
variable (p : Device)

/-! Characters (R52 to R62, R79) -/

theorem Device.storeReport_port (e : Half) (rep : StoredReport) : (p.storeReport e rep).port = p.port := by
  unfold Device.storeReport Device.takeReport
  repeat' split
  all_goals exact p.finishWork_port

theorem Device.sight_port (a : Addr) (e : Half) (s : PhaseSet) : (p.sight a e s).port = p.port := by
  unfold Device.sight
  dsimp only
  repeat' split
  all_goals rfl

theorem Device.checkFrame_port (len : Byte) (body : List Byte) (crc : Half) :
    (p.checkFrame len body crc).port = p.port := by
  unfold Device.checkFrame
  repeat' split
  case h_1.isTrue => exact p.sight_port _ _ _
  case h_2.isFalse => exact p.storeReport_port _ _
  all_goals rfl

theorem Device.rxByte_port (b : Byte) : (p.rxByte b).port = p.port := by
  unfold Device.rxByte Device.lengthByte
  repeat' split
  case h_6 => exact Device.checkFrame_port _ _ _ _
  all_goals rfl

theorem Device.framingError_port : p.framingError.port = p.port := by
  unfold Device.framingError
  split <;> rfl

theorem Device.characterReceived_port (stop : Bool) (b : Byte) : (p.characterReceived stop b).port = p.port := by
  unfold Device.characterReceived
  dsimp only
  repeat' split
  · exact Device.rxByte_port _ b
  · exact Device.framingError_port _
  · rfl

theorem Device.gapExpire_port : p.gapExpire.port = p.port := by
  unfold Device.gapExpire
  split <;> rfl

theorem Device.startBit_port : p.startBit.port = p.port := by
  unfold Device.startBit
  repeat' split
  · exact p.gapExpire_port
  · rfl
  · rfl

theorem Device.gapTimerExpiry_port : p.gapTimerExpiry.port = p.port := by
  unfold Device.gapTimerExpiry
  split
  · exact (Device.gapExpire_port _).trans (p.passTo_port _)
  · rfl

/-! Ticks and deadlines (R71 to R75, R81) -/

theorem Device.syncPulse_port : p.syncPulse.port = p.port := by
  unfold Device.syncPulse Device.pulseLocked Device.pulseHoldover
  repeat' split
  all_goals simp

@[simp] theorem Device.checkSyncLost_port : p.checkSyncLost.port = p.port := by
  unfold Device.checkSyncLost
  split <;> rfl

theorem Device.slotDeadline_port (e : Half) : (p.slotDeadline e).port = p.port := by
  unfold Device.slotDeadline
  dsimp only
  split
  · exact (Device.passTo_port _ _).trans p.finishWork_port
  · rfl

/-! Breakers (R133, R146, R147) -/

theorem Device.tripTimeout_port (z : ZoneIx) : (p.tripTimeout z).port = p.port := by
  unfold Device.tripTimeout
  split
  · exact (Device.timeout_sameButTrip _ z).port.trans (p.passTo_port _)
  · rfl

theorem Device.debounceExpiry_port (z : ZoneIx) : (p.debounceExpiry z).port = p.port := by
  unfold Device.debounceExpiry
  split
  · exact (Device.becomeStable_sameButTrip _ z _).port.trans (p.passTo_port _)
  · rfl

theorem Device.timerUpTo_port (z : ZoneIx) (t : Moment) : (p.timerUpTo z t).port = p.port := by
  unfold Device.timerUpTo
  repeat' split
  · exact p.tripTimeout_port z
  · rfl
  · rfl

theorem Device.intervalUpTo_port (z : ZoneIx) (t : Moment) : (p.intervalUpTo z t).port = p.port := by
  unfold Device.intervalUpTo
  repeat' split
  · exact p.debounceExpiry_port z
  · rfl
  · rfl

theorem Device.brkLevelChange_port (t : Moment) (z : ZoneIx) (high : Bool) :
    (p.brkLevelChange t z high).port = p.port := by
  unfold Device.brkLevelChange
  split
  · exact p.passTo_port t
  · rw [(Device.changeLevel_sameButTrip _ z high).port, Device.passTo_port, Device.intervalUpTo_port,
      Device.timerUpTo_port]

end

/-- The rows of an SPI transaction, and the resets. -/
def movesPort : Instr → Prop
  | .powerOnReset _ => True
  | .rstNReset _ => True
  | .transactionStart _ => True
  | .accessByte _ => True
  | .codeByte _ => True
  | .parameterByte _ => True
  | .overrunByte _ => True
  | .resultByteRead => True
  | .statusByteRead => True
  | .transactionEnd => True
  | _ => False

/-- Every other row that is no host command leaves the Host Port as it stands. -/
theorem exec_port {s t : State} {c : Instr} (e : exec c s = .next t) (hp : ¬ movesPort c) (hc : ¬ hostCommand c) :
    t.device.port = s.device.port := by
  cases c with
  | characterReceived m stop b =>
    cases e; exact (Device.characterReceived_port _ stop b).trans (s.device.passTo_port m)
  | startBit m => cases e; exact (Device.startBit_port _).trans (s.device.passTo_port m)
  | gapTimerExpiry => cases e; exact s.device.gapTimerExpiry_port
  | syncPulse m => cases e; exact (Device.syncPulse_port _).trans (s.device.passTo_port m)
  | syncTimerExpiry => cases e; dsimp only; split <;> simp [Device.enterHoldover]
  | holdoverTick => cases e; dsimp only; split <;> simp [Device.holdoverTick]
  | freeTick => cases e; dsimp only; split <;> simp [Device.freeTick]
  | slotDeadline epoch => cases e; exact s.device.slotDeadline_port epoch
  | brkLevelChange m z high =>
    cases e; dsimp only; split
    · exact s.device.brkLevelChange_port m _ high
    · rfl
  | debounceExpiry z =>
    cases e; dsimp only; split
    · exact s.device.debounceExpiry_port _
    · rfl
  | tripTimeout z =>
    cases e; dsimp only; split
    · exact s.device.tripTimeout_port _
    · rfl
  | powerOnReset | rstNReset | transactionStart | accessByte | codeByte | parameterByte | overrunByte
  | resultByteRead | statusByteRead | transactionEnd => exact absurd trivial hp
  | _ => exact absurd rfl hc

/-! ### What each move of the Host Port keeps (R168 to R179) -/

namespace HostPort.lawful

variable {h : HostPort}

/-- R168: a byte on MISO begins inside a transaction. -/
theorem speak (k : h.lawful) (inside : h.xfer ≠ .none) (b : Byte) : HostPort.lawful { h with miso := some b } := by
  obtain ⟨buffers, -, wire, open_⟩ := k
  exact ⟨buffers, by simp [inside], wire, open_⟩

/-- R173: outside a WRITE transaction no byte's standing is open. -/
theorem begun_none (k : h.lawful) (other : h.xfer ≠ .write) : h.begun = none := by
  obtain ⟨-, -, -, open_⟩ := k
  exact Option.not_isSome_iff_eq_none.mp fun some_ => other (open_ some_).2

/-- R171: a command is collected in a WRITE transaction alone. -/
theorem not_collecting (k : h.lawful) (other : h.xfer ≠ .write) : h.state ≠ .collecting := by
  obtain ⟨buffers, -⟩ := k
  intro collecting
  simp only [HostPort.buffersLawful, collecting] at buffers
  obtain ⟨-, -, -, write⟩ := buffers
  exact other write

/-- Outside COLLECTING the buffers' laws do not speak of the transaction. -/
theorem buffers_of_not_collecting {g : HostPort} (k : h.lawful) (settled : h.state ≠ .collecting)
    (state : g.state = h.state) (cmd : g.cmd = h.cmd) (result : g.result = h.result)
    (readPos : g.readPos = h.readPos) : g.buffersLawful := by
  obtain ⟨buffers, -⟩ := k
  unfold HostPort.buffersLawful at buffers ⊢
  rw [state, cmd, result, readPos]
  cases st : h.state with
  | collecting => exact absurd st settled
  | _ => simpa only [st] using buffers

/-- R168, R169: a transaction, no WRITE, becomes another, and a byte on MISO begins. -/
theorem transfer (k : h.lawful) (other : h.xfer ≠ .write) {x : Transfer} (inside : x ≠ .none) {low : Bool}
    (csLow : low = true) (b : Byte) : HostPort.lawful { h with csLow := low, xfer := x, miso := some b } :=
  ⟨k.buffers_of_not_collecting (k.not_collecting other) rfl rfl rfl rfl, by simp [inside], fun _ => csLow,
    by simp [k.begun_none other]⟩

/-- R173: nor is one open outside EXECUTING. -/
theorem begun_none_of_state (k : h.lawful) (other : h.state ≠ .executing) : h.begun = none := by
  obtain ⟨-, -, -, open_⟩ := k
  exact Option.not_isSome_iff_eq_none.mp fun some_ => other (open_ some_).1

/-- R171: a code byte names no command, or begins one, or is one. -/
theorem takeCode (k : h.lawful) (write : h.xfer = .write) (idle : h.state = .idle) (now : Moment) (b : Byte) :
    (h.takeCode now b).lawful := by
  have closed : h.begun = none := k.begun_none_of_state (by simp [idle])
  obtain ⟨buffers, miso, wire, -⟩ := k
  obtain ⟨-, result, readPos⟩ : h.cmd = [] ∧ h.result = [] ∧ h.readPos = 0 := by
    simpa only [HostPort.buffersLawful, idle] using buffers
  unfold HostPort.takeCode
  split
  · exact ⟨⟨rfl, Nat.one_pos, by simp [HostPort.giveResult]⟩, miso, wire, nofun⟩
  · rename_i whole
    exact ⟨⟨decodeCommand_isSome whole, result, readPos⟩, miso, wire, fun _ => ⟨rfl, write⟩⟩
  · rename_i n more
    exact ⟨⟨⟨b, [], n + 1, rfl, more, Nat.succ_pos n⟩, result, readPos, write⟩, miso, wire, by simp [closed]⟩

/-- R172: a parameter byte is one of several to come, or completes the command. -/
theorem takeParameter (k : h.lawful) (write : h.xfer = .write) (collecting : h.state = .collecting) (now : Moment)
    (b : Byte) : (h.takeParameter now b).lawful := by
  have closed : h.begun = none := k.begun_none_of_state (by simp [collecting])
  obtain ⟨buffers, miso, wire, -⟩ := k
  obtain ⟨⟨code, ps, n, cmd, known, more⟩, result, readPos, -⟩ :
      (∃ code ps n, h.cmd = code :: ps ∧ paramCount code = some n ∧ ps.length < n) ∧ h.result = []
        ∧ h.readPos = 0 ∧ h.xfer = .write := by
    simpa only [HostPort.buffersLawful, collecting] using buffers
  have wanted : h.wanted = n := by simp [HostPort.wanted, cmd, known]
  have held : h.cmd.length = ps.length + 1 := by rw [cmd, List.length_cons]
  have longer : h.cmd ++ [b] = code :: (ps ++ [b]) := by rw [cmd, List.cons_append]
  have count : (ps ++ [b]).length = ps.length + 1 := List.length_append
  unfold HostPort.takeParameter
  rw [wanted, held, longer]
  split
  · rename_i last
    have whole : paramCount code = some (ps ++ [b]).length := by rw [known, count]; congr 1; omega
    exact ⟨⟨decodeCommand_isSome whole, result, readPos⟩, miso, wire, fun _ => ⟨rfl, write⟩⟩
  · refine ⟨?_, miso, wire, by simp [closed]⟩
    simp only [HostPort.buffersLawful, collecting]
    exact ⟨⟨code, ps ++ [b], n, rfl, known, by omega⟩, result, readPos, write⟩

/-- R174: an overrun. -/
theorem overrun (k : h.lawful) : HostPort.lawful { h with overrun := true, begun := none } := by
  obtain ⟨buffers, miso, wire, -⟩ := k
  exact ⟨buffers, miso, wire, nofun⟩

/-- R175: a result byte consumed, the last or one with more behind it. -/
theorem consume (k : h.lawful) (result : h.state = .result) : h.consume.lawful := by
  have closed : h.begun = none := k.begun_none_of_state (by simp [result])
  obtain ⟨buffers, miso, wire, -⟩ := k
  obtain ⟨cmd, -, short⟩ : h.cmd = [] ∧ h.readPos < h.result.length ∧ h.result.length ≤ 31 := by
    simpa only [HostPort.buffersLawful, result] using buffers
  unfold HostPort.consume
  split
  · exact ⟨⟨cmd, rfl, rfl⟩, miso, wire, by simp [closed]⟩
  · rename_i more
    refine ⟨?_, miso, wire, by simp [closed]⟩
    simp only [HostPort.buffersLawful, result]
    exact ⟨cmd, Nat.lt_of_not_le more, short⟩

/-- R179: marks cleared. -/
theorem clearShown (k : h.lawful) (shown : Byte) : (h.clearShown shown).lawful := k

/-- R168, R172: CS_N rises on a port that collects no command. -/
theorem release (k : h.lawful) (settled : h.state ≠ .collecting) : h.release.lawful :=
  ⟨k.buffers_of_not_collecting settled rfl rfl rfl rfl, by simp [HostPort.release], fun inside => absurd rfl inside,
    nofun⟩

/-- R172: CS_N rises and the command being collected is abandoned. -/
theorem abandon (k : h.lawful) (collecting : h.state = .collecting) : h.abandon.release.lawful := by
  obtain ⟨buffers, -⟩ := k
  obtain ⟨-, result, readPos, -⟩ :
      (∃ code ps n, h.cmd = code :: ps ∧ paramCount code = some n ∧ ps.length < n) ∧ h.result = []
        ∧ h.readPos = 0 ∧ h.xfer = .write := by
    simpa only [HostPort.buffersLawful, collecting] using buffers
  exact ⟨⟨rfl, result, readPos⟩, by simp [HostPort.release], fun inside => absurd rfl inside, nofun⟩

end HostPort.lawful

/-- R169: an access byte always names a kind of transaction. -/
theorem HostPort.accessKind_named (h : HostPort) (b : Byte) : h.accessKind b ≠ .none ∧ h.accessKind b ≠ .access := by
  unfold HostPort.accessKind
  repeat' split
  all_goals simp

/-- R170, R177: the port that a reset leaves. -/
theorem HostPort.afterReset_lawful (csLow : Bool) : (HostPort.afterReset csLow).lawful :=
  ⟨⟨rfl, rfl, rfl⟩, by simp [HostPort.afterReset], fun inside => absurd rfl inside, nofun⟩

/-- R173: a taken command's result stands in the buffer; the byte that began with the taking shows it or not. -/
theorem State.answered_portLawful {s : State} {d : Device} {r : List Byte} (k : d.port.lawful) (code : 0 < r.length)
    (short : r.length ≤ 31) : (s.answered d r).device.port.lawful := by
  obtain ⟨-, miso, wire, open_⟩ := k
  rw [State.answered_port]
  refine ⟨⟨rfl, code, short⟩, ?_, wire, nofun⟩
  rcases s.answered_miso d r with same | ⟨began, shown⟩
  · rwa [same]
  · have write : d.port.xfer = .write := (open_ (by simp [began])).2
    simp [shown, write]

/-! ### Every row keeps the laws of the Host Port -/

section
variable {p : Device} (k : p.port.lawful)
include k

theorem Device.transactionStart_portLawful : p.transactionStart.port.lawful := by
  unfold Device.transactionStart
  split
  · exact k
  · rename_i high
    have ⟨_, _, wire, _⟩ := k
    exact k.transfer (x := .access) (fun write => high (wire (by simp [write]))) nofun rfl _

theorem Device.accessByte_portLawful (b : Byte) : (p.accessByte b).port.lawful := by
  obtain ⟨named, done⟩ := p.port.accessKind_named b
  unfold Device.accessByte
  split
  · rename_i access
    have ⟨_, _, wire, _⟩ := k
    have begins := k.transfer (by simp [access]) named (wire (by simp [access]))
    dsimp only [Device.withPort_port]
    split
    case h_6 none_ => exact absurd none_ named
    case h_7 access_ => exact absurd access_ done
    all_goals exact begins _
  · exact k

theorem Device.codeByte_portLawful (b : Byte) : (p.codeByte b).port.lawful := by
  unfold Device.codeByte
  split
  · rename_i taken
    obtain ⟨write, idle⟩ := taken
    refine (k.takeCode write idle p.now b).speak ?_ _
    unfold HostPort.takeCode
    split <;> simp [HostPort.giveResult, write]
  · exact k

theorem Device.parameterByte_portLawful (b : Byte) : (p.parameterByte b).port.lawful := by
  unfold Device.parameterByte
  split
  · rename_i taken
    obtain ⟨write, collecting⟩ := taken
    refine (k.takeParameter write collecting p.now b).speak ?_ _
    unfold HostPort.takeParameter
    split <;> simp [write]
  · exact k

theorem Device.overrunByte_portLawful (b : Byte) : (p.overrunByte b).port.lawful := by
  unfold Device.overrunByte
  split
  · rename_i discarded
    obtain ⟨write, -⟩ := discarded
    exact k.overrun.speak (by simp [write]) _
  · exact k

theorem Device.resultByteRead_portLawful : p.resultByteRead.port.lawful := by
  unfold Device.resultByteRead
  split
  · rename_i delivered
    obtain ⟨reads, result⟩ := delivered
    refine (k.consume result).speak ?_ _
    unfold HostPort.consume
    split <;> simp [reads]
  · exact k

theorem Device.statusByteRead_portLawful : p.statusByteRead.port.lawful := by
  unfold Device.statusByteRead
  split
  · rename_i status
    exact (k.clearShown _).speak (by simp [HostPort.clearShown, status]) _
  · exact k

theorem Device.transactionEnd_portLawful : p.transactionEnd.port.lawful := by
  unfold Device.transactionEnd
  repeat' split
  · exact k.abandon ‹_›
  · exact k.release ‹_›
  · exact k

end

/-- R173: whatever the host command, its result is 1 to 31 bytes and its owning block leaves the port. -/
theorem exec_hostCommand_port {c : Instr} (s : State) (hc : hostCommand c) :
    ∃ d r, exec c s = .next (s.answered d r) ∧ d.port = s.device.port ∧ 0 < r.length ∧ r.length ≤ 31 := by
  by_cases loads : loadsProfile c
  · cases c with
    | loadProfile index =>
      refine ⟨_, _, rfl, ?_⟩
      unfold Device.loadProfile
      split <;> simp
    | _ => exact absurd loads id
  · obtain ⟨a, answers, answered⟩ := exec_hostCommand s hc loads
    exact ⟨a.1, a.2, answered, answers.port, answers.code, answers.short⟩

theorem exec_portLawful {s t : State} {c : Instr} (e : exec c s = .next t) (k : s.device.port.lawful) :
    t.device.port.lawful := by
  by_cases moves : movesPort c
  · cases c with
    | powerOnReset pins | rstNReset pins => cases e; exact HostPort.afterReset_lawful pins.csLow
    | transactionStart m => cases e; exact Device.transactionStart_portLawful (by rwa [Device.passTo_port])
    | accessByte b => cases e; exact Device.accessByte_portLawful k b
    | codeByte b => cases e; exact Device.codeByte_portLawful k b
    | parameterByte b => cases e; exact Device.parameterByte_portLawful k b
    | overrunByte b => cases e; exact Device.overrunByte_portLawful k b
    | resultByteRead => cases e; exact Device.resultByteRead_portLawful k
    | statusByteRead => cases e; exact Device.statusByteRead_portLawful k
    | transactionEnd => cases e; exact Device.transactionEnd_portLawful k
    | _ => exact absurd moves id
  · by_cases host : hostCommand c
    · obtain ⟨d, r, answered, port, code, short⟩ := exec_hostCommand_port s host
      cases e.symm.trans answered
      exact State.answered_portLawful (by rwa [port]) code short
    · rwa [exec_port e moves host]

/-- Each row keeps each of the four laws by itself. -/
theorem exec_keepsBlockLaws {s t : State} {c : Instr} (e : exec c s = .next t) :
    (s.device.profilesLawful → t.device.profilesLawful) ∧ (s.device.clock.lawful → t.device.clock.lawful)
      ∧ (s.device.link.lawful → t.device.link.lawful) ∧ (s.device.port.lawful → t.device.port.lawful) :=
  ⟨exec_profilesLawful e, exec_clockLawful e, exec_linkLawful e, exec_portLawful e⟩

/-- Settles O56: the row at the front of the queue keeps each law; the part's own work moves none of the four
blocks. -/
theorem everyStepKeepsProfileClockLinkAndPortLaws : Obligations.EveryStepKeepsProfileClockLinkAndPortLaws := by
  intro s t h
  rcases step_cases h with ⟨c, q, -, e⟩ | ⟨-, rfl⟩
  · have kept := exec_keepsBlockLaws e
    exact kept
  · obtain ⟨_, _, kept⟩ := s.idle_kept
    exact ⟨fun lawful i => by rw [kept.profiles]; exact lawful i, fun lawful => by rwa [kept.clock],
      fun lawful => by rwa [kept.link], fun lawful => by rwa [kept.port]⟩

end Sys2Proof.Machine

/-! ## Trip requests and escalation (O42) -/

namespace Sys2Proof.Machine

section
variable {p : Device} {i : SecIx} {l : List SecIx}

/-- R142: zone 0 takes no escalated cause. -/
theorem Device.escalate_refused (h : (p.zones.get 0).seq = .hanging ∨ (p.zones.get 0).tripEnable = false) :
    p.escalate l = p.mapListed l (SectionRec.withMark .failed) := by
  have refuses : p.zone0Takes = false := by rcases h with h | h <;> simp [Device.zone0Takes, h]
  simp [Device.escalate, refuses]

theorem Device.zone0Takes_iff :
    p.zone0Takes = true ↔ (p.zones.get 0).tripEnable = true ∧ (p.zones.get 0).seq ≠ .hanging := by
  simp [Device.zone0Takes, and_comm]

/-- R142: zone 0 starts a trip for the sections sent to it. -/
theorem Device.escalate_starts (on : (p.zones.get 0).tripEnable = true) (idle : (p.zones.get 0).seq = .idle)
    (closed : (p.zones.get 0).isOpen = false) :
    p.escalate l =
      (p.mapListed l SectionRec.joinEscalated).setZone 0 ((p.zones.get 0).startTrip p.now l false) := by
  have takes := Device.zone0Takes_iff.mpr ⟨on, by rw [idle]; exact nofun⟩
  simp only [Device.escalate, takes, idle, closed, if_true, Bool.false_eq_true, if_false]

/-- R142: zone 0's breaker is OPEN already. -/
theorem Device.escalate_isolates (on : (p.zones.get 0).tripEnable = true) (idle : (p.zones.get 0).seq = .idle)
    (isOpen : (p.zones.get 0).isOpen = true) :
    p.escalate l =
      (p.mapListed l SectionRec.isolateEscalated).latchOutcome 0 (sectionOutcome .alreadyOpen false true l) := by
  have takes := Device.zone0Takes_iff.mpr ⟨on, by rw [idle]; exact nofun⟩
  simp only [Device.escalate, takes, idle, isOpen, if_true]

/-- R142: the sections join the trip of zone 0 under way. -/
theorem Device.escalate_joins (on : (p.zones.get 0).tripEnable = true) (busy : (p.zones.get 0).seq = .tripping) :
    p.escalate l = (p.mapListed l SectionRec.joinEscalated).setZone 0
      { p.zones.get 0 with causes := (p.zones.get 0).causes ++ l } := by
  have takes := Device.zone0Takes_iff.mpr ⟨on, by rw [busy]; exact nofun⟩
  simp only [Device.escalate, takes, busy, if_true]

/-- R142, R152: the latch of ALREADY_OPEN names at least one section. -/
theorem sectionOutcome_of_ne_nil (kind : OutcomeKind) (manual escalated : Bool) (h : l ≠ []) :
    sectionOutcome kind manual escalated l = ⟨kind, true, manual, escalated, l.head?, l.length, false⟩ := by
  simp [sectionOutcome, h]

end

section
variable {p : Device} {i : SecIx} {y : Zone}

theorem Device.tripRequest_withheld (zone : p.zones.get (p.sections.get i).zone = y) (off : y.tripEnable = false) :
    p.tripRequest i = p.setSection i ((p.sections.get i).withMark .withheld) := by
  simp only [Device.tripRequest, zone, off, Bool.false_eq_true, if_false]

theorem Device.tripRequest_starts (zone : p.zones.get (p.sections.get i).zone = y) (on : y.tripEnable = true)
    (idle : y.seq = .idle) (closed : y.isOpen = false) :
    p.tripRequest i = (p.setSection i ((p.sections.get i).withMark .pending)).setZone (p.sections.get i).zone
      (y.startTrip p.now [i] y.manual) := by
  simp only [Device.tripRequest, zone, on, idle, closed, if_true, Bool.false_eq_true, if_false]

theorem Device.tripRequest_isolates (zone : p.zones.get (p.sections.get i).zone = y) (on : y.tripEnable = true)
    (idle : y.seq = .idle) (isOpen : y.isOpen = true) :
    p.tripRequest i = (p.setSection i (p.sections.get i).isolate).latchOutcome (p.sections.get i).zone
      (sectionOutcome .alreadyOpen false false [i]) := by
  simp only [Device.tripRequest, zone, on, idle, isOpen, if_true]

theorem Device.tripRequest_joins (zone : p.zones.get (p.sections.get i).zone = y) (on : y.tripEnable = true)
    (busy : y.seq = .tripping) :
    p.tripRequest i = (p.setSection i ((p.sections.get i).withMark .pending)).setZone (p.sections.get i).zone
      { y with causes := y.causes ++ [i] } := by
  simp only [Device.tripRequest, zone, on, busy, if_true]

theorem Device.tripRequest_fails (zone : p.zones.get (p.sections.get i).zone = y) (on : y.tripEnable = true)
    (hung : y.seq = .hanging) (stays : (p.sections.get i).zone = 0 ∨ y.escalationEnable = false) :
    p.tripRequest i = p.setSection i ((p.sections.get i).withMark .failed) := by
  have h : ¬ ((p.sections.get i).zone ≠ 0 ∧ y.escalationEnable = true) := by
    rintro ⟨other, enabled⟩
    rcases stays with zero | off
    · exact other zero
    · rw [off] at enabled; cases enabled
  simp only [Device.tripRequest, zone, on, hung, if_true, if_neg h]

theorem Device.tripRequest_escalates (zone : p.zones.get (p.sections.get i).zone = y) (on : y.tripEnable = true)
    (hung : y.seq = .hanging) (other : (p.sections.get i).zone ≠ 0) (enabled : y.escalationEnable = true) :
    p.tripRequest i = p.escalate [i] := by
  have h : (p.sections.get i).zone ≠ 0 ∧ y.escalationEnable = true := ⟨other, enabled⟩
  simp only [Device.tripRequest, zone, on, hung, if_true, if_pos h]

end

/-- Settles O42: the trip enable, the sequencer and the breaker name the answer, for a request and for zone 0. -/
theorem tripRequestIsAnsweredByFirstCase : Obligations.TripRequestIsAnsweredByFirstCase := by
  intro p i l
  exact ⟨Device.tripRequest_withheld rfl, Device.tripRequest_starts rfl, Device.tripRequest_isolates rfl,
    Device.tripRequest_joins rfl, Device.tripRequest_fails rfl, Device.tripRequest_escalates rfl,
    Device.escalate_refused, Device.escalate_starts,
    fun on idle isOpen sent => by
      rw [Device.escalate_isolates on idle isOpen, sectionOutcome_of_ne_nil _ _ _ sent]
      rfl,
    Device.escalate_joins⟩

end Sys2Proof.Machine

/-! ## Breaker levels and timeouts (O43, O46) -/

namespace Sys2Proof.Machine

/-! ### Debouncing (O43) -/

/-- R133: another stable level is the other breaker state. -/
theorem Zone.isOpen_of_stable_ne {y u : Zone} (polarity : u.polarity = y.polarity) (stable : u.stable ≠ y.stable) :
    u.isOpen = !y.isOpen := by
  have flipped : u.stable = !y.stable := Bool.eq_not.mpr stable
  unfold Zone.isOpen
  rw [polarity, flipped]
  cases y.polarity <;> rfl

section
variable {p : Device} {z : ZoneIx} {level : Bool}

/-- R133: a level that becomes stable makes a close edge of an OPEN breaker and an open edge of a CLOSED one. -/
theorem Device.becomeStable_edge (new : level ≠ (p.zones.get z).stable) :
    p.becomeStable z level =
      (let q := p.setZone z { p.zones.get z with stable := level, interval := none }
       if (p.zones.get z).isOpen then q.closeEdge z else q.openEdge z) := by
  have flipped : ({ p.zones.get z with stable := level, interval := none } : Zone).isOpen
      = !(p.zones.get z).isOpen := Zone.isOpen_of_stable_ne rfl new
  simp only [Device.becomeStable, Device.afterBreaker, Device.setZone_zones, Table.get_set_self, flipped]
  cases (p.zones.get z).isOpen <;> rfl

theorem Device.changeLevel_stable (same : (p.zones.get z).stable = level) :
    p.changeLevel z level = p.setZone z { p.zones.get z with pin := level, interval := none } := if_pos same

theorem Device.changeLevel_starts (new : (p.zones.get z).stable ≠ level) (slow : (p.zones.get z).debounce ≠ 0) :
    p.changeLevel z level = p.setZone z { p.zones.get z with
      pin := level, interval := some ⟨level, p.now + ms (p.zones.get z).debounce⟩ } := by
  refine (if_neg new).trans ((if_neg slow).trans ?_)
  simp only [Device.setZone, Table.set_set]

theorem Device.changeLevel_atOnce (new : (p.zones.get z).stable ≠ level) (fast : (p.zones.get z).debounce = 0) :
    p.changeLevel z level =
      (p.setZone z { p.zones.get z with pin := level, interval := none }).becomeStable z level :=
  (if_neg new).trans (if_pos fast)

end

section
variable {p : Device} {z : ZoneIx} {t : Moment}

theorem Device.debounceExpiry_none (h : (p.zones.get z).interval = none) : p.debounceExpiry z = p := by
  simp only [Device.debounceExpiry, h]

theorem Device.debounceExpiry_some {d : Debounce} (h : (p.zones.get z).interval = some d) :
    p.debounceExpiry z = (p.passTo d.ends).becomeStable z d.level := by
  simp only [Device.debounceExpiry, h]

theorem Device.intervalUpTo_none (h : (p.zones.get z).interval = none) : p.intervalUpTo z t = p := by
  simp only [Device.intervalUpTo, h]

theorem Device.intervalUpTo_some {d : Debounce} (h : (p.zones.get z).interval = some d) :
    p.intervalUpTo z t = if d.ends ≤ t then p.debounceExpiry z else p := by
  simp only [Device.intervalUpTo, h]

theorem Device.timerUpTo_none (h : (p.zones.get z).timer = none) : p.timerUpTo z t = p := by
  simp only [Device.timerUpTo, h]

theorem Device.timerUpTo_some {x : Moment} (h : (p.zones.get z).timer = some x) :
    p.timerUpTo z t =
      if x < t ∧ ∀ d, (p.zones.get z).interval = some d → x < d.ends then p.tripTimeout z else p := by
  simp only [Device.timerUpTo, h, Option.mem_def]

theorem Device.brkLevelChange_same {high : Bool} (h : (p.zones.get z).pin = high) :
    p.brkLevelChange t z high = p.passTo t := if_pos h

theorem Device.brkLevelChange_other {high : Bool} (h : (p.zones.get z).pin ≠ high) :
    p.brkLevelChange t z high =
      (((p.timerUpTo z (max p.now t)).intervalUpTo z (max p.now t)).passTo t).changeLevel z high := if_neg h

end

section
variable {s : State} {d : Device} {z : ZoneIx} {k : Nat}

/-- A row that names one of the four lines. -/
theorem State.run_line (f : ZoneIx → Device → Device) (z : ZoneIx) :
    s.run (fun p => if h : z.val < 4 then f ⟨z.val, h⟩ p else p) = .next (s.withDevice (f z s.device)) := by
  simp only [State.run_eq, z.isLt, dite_true]
  rfl

/-- A row that names no line (log entry 6). -/
theorem State.run_noLine (f : ZoneIx → Device → Device) (above : 4 ≤ k) :
    s.run (fun p => if h : k < 4 then f ⟨k, h⟩ p else p) = .next s :=
  State.run_same (dif_neg (Nat.not_lt.mpr above))

theorem exec_brkLevelChange {m : Moment} {high : Bool} (h : s.device.brkLevelChange m z high = d) :
    exec (.brkLevelChange m z.val high) s = .next (s.withDevice d) := by
  rw [← h]
  exact State.run_line (fun z p => p.brkLevelChange m z high) z

theorem exec_debounceExpiry (h : s.device.debounceExpiry z = d) :
    exec (.debounceExpiry z.val) s = .next (s.withDevice d) := by
  rw [← h]
  exact State.run_line (fun z p => p.debounceExpiry z) z

theorem exec_tripTimeout (h : s.device.tripTimeout z = d) :
    exec (.tripTimeout z.val) s = .next (s.withDevice d) := by
  rw [← h]
  exact State.run_line (fun z p => p.tripTimeout z) z

theorem exec_noLine (m : Moment) (high : Bool) (above : 4 ≤ k) :
    exec (.brkLevelChange m k high) s = .next s ∧ exec (.debounceExpiry k) s = .next s
      ∧ exec (.tripTimeout k) s = .next s :=
  ⟨State.run_noLine (fun z p => p.brkLevelChange m z high) above,
    State.run_noLine (fun z p => p.debounceExpiry z) above, State.run_noLine (fun z p => p.tripTimeout z) above⟩

end

/-- Settles O43: the stable level and the debounce decide what a change does; what ran out before it comes first. -/
theorem breakerLevelsAreDebounced : Obligations.BreakerLevelsAreDebounced := by
  refine ⟨fun s m z high => ⟨fun same => exec_brkLevelChange (Device.brkLevelChange_same same), fun other => ?_,
      fun k above => exec_noLine m high above⟩,
    fun s z => ⟨exec_debounceExpiry rfl, fun idle => exec_debounceExpiry (Device.debounceExpiry_none idle),
      fun d runs new => ?_⟩,
    fun p z m => ⟨Device.intervalUpTo_none, fun d runs early => ?_, fun d runs ended => ?_, Device.timerUpTo_none,
      fun x runs early => ?_, fun x runs ended first => ?_⟩⟩
  · have change := Device.brkLevelChange_other (t := m) other
    refine ⟨fun same => ?_, fun new slow => ?_, fun new fast => ?_⟩
    · exact exec_brkLevelChange (change.trans (Device.changeLevel_stable same))
    · exact exec_brkLevelChange (change.trans (Device.changeLevel_starts new slow))
    · refine exec_brkLevelChange (change.trans ((Device.changeLevel_atOnce new fast).trans ?_))
      refine Device.becomeStable_edge ?_
      rw [Device.setZone_zones, Table.get_set_self]
      exact new.symm
  · exact exec_debounceExpiry ((Device.debounceExpiry_some runs).trans (Device.becomeStable_edge new))
  · exact (Device.intervalUpTo_some runs).trans (if_neg (Nat.not_le.mpr early))
  · exact (Device.intervalUpTo_some runs).trans (if_pos ended)
  · refine (Device.timerUpTo_some runs).trans (if_neg ?_)
    rintro ⟨before, first⟩
    rcases early with late | ⟨d, interval, ends⟩
    · exact Nat.not_le.mpr before late
    · exact Nat.not_le.mpr (first d interval) ends
  · have expires := (Device.timerUpTo_some (t := m) runs).trans (if_pos ⟨ended, first⟩)
    exact (exec_tripTimeout (s := ⟨p, []⟩) expires.symm).symm

/-! ### A timeout (O46) -/

/-- R146, R152: the zone that a timeout leaves, with its outcome. -/
def Zone.timedOut (y : Zone) (escalated : Bool) : Zone :=
  { y.hang with
    latch := some { sectionOutcome .failed y.manual escalated y.causes with overwritten := y.latch.isSome } }

section
variable {p : Device} {z : ZoneIx}

theorem Device.timeoutEscalates_iff :
    p.timeoutEscalates z = true ↔
      z ≠ 0 ∧ (p.zones.get z).escalationEnable = true ∧ (p.zones.get z).causes ≠ [] := by
  simp [Device.timeoutEscalates, and_assoc]

/-- R146, R147: the zone hangs, and its list is escalated or fails. -/
theorem Device.timeout_eq :
    p.timeout z =
      let up := p.timeoutEscalates z
      let causes := (p.zones.get z).causes
      let h := p.setZone z ((p.zones.get z).timedOut ((up && p.zone0Takes) || p.anyEscalated causes))
      if up then h.escalate causes else h.mapListed causes (SectionRec.withMark .failed) := by
  simp only [Device.timeout, Device.latchOutcome, Device.setZone, Table.get_set_self, Table.set_set]
  rfl

theorem Device.timeout_raised (up : p.timeoutEscalates z = true) :
    p.timeout z = (p.setZone z ((p.zones.get z).timedOut
      (p.zone0Takes || p.anyEscalated (p.zones.get z).causes))).escalate (p.zones.get z).causes := by
  simp only [Device.timeout_eq, up, if_true, Bool.true_and]

theorem Device.timeout_failed (up : p.timeoutEscalates z = false) :
    p.timeout z = (p.setZone z ((p.zones.get z).timedOut
      (p.anyEscalated (p.zones.get z).causes))).mapListed (p.zones.get z).causes (SectionRec.withMark .failed) := by
  simp only [Device.timeout_eq, up, Bool.false_eq_true, if_false, Bool.false_and, Bool.false_or]

theorem Device.tripTimeout_expires {t : Moment} (busy : (p.zones.get z).seq = .tripping)
    (runs : (p.zones.get z).timer = some t) : p.tripTimeout z = (p.passTo t).timeout z := by
  simp only [Device.tripTimeout, busy, runs]

theorem Device.tripTimeout_of_ne (h : (p.zones.get z).seq ≠ .tripping) : p.tripTimeout z = p := by
  unfold Device.tripTimeout
  split
  · exact absurd ‹_› h
  · rfl

end

/-- Settles O46: the zone hangs with FAILED latched, and its list goes to zone 0 or fails. -/
theorem tripTimeoutFailsOrEscalates : Obligations.TripTimeoutFailsOrEscalates := by
  refine fun s z => ⟨fun t busy runs => ?_, fun idle => exec_tripTimeout (Device.tripTimeout_of_ne idle)⟩
  have expires := Device.tripTimeout_expires busy runs
  dsimp only
  rw [← Device.timeoutEscalates_iff]
  exact ⟨fun raised => exec_tripTimeout (expires.trans (Device.timeout_raised raised)),
    fun stays => exec_tripTimeout (expires.trans (Device.timeout_failed (eq_false_of_ne_true stays)))⟩

end Sys2Proof.Machine

/-! ## Breaker edges (O44, O45) -/

namespace Sys2Proof.Machine

/-- What trips and edges keep, as one equation. -/
theorem Device.SameButTrip.eq {p q : Device} (h : p.SameButTrip q) :
    q = { p with
      sections := q.sections, zones := q.zones
      alerts := { p.alerts with flags := { p.alerts.flags with sect := q.alerts.flags.sect } } } := by
  obtain ⟨link, clock, ⟨slots, held⟩, nodes, strangers, overwrites, profiles, port, now, choices, enables,
    ⟨node, stranger, linkFlag, sync⟩, -⟩ := h
  dsimp only
  rw [← link, ← clock, ← slots, ← held, ← nodes, ← strangers, ← overwrites, ← profiles, ← port, ← now, ← choices,
    ← enables, ← node, ← stranger, ← linkFlag, ← sync]

/-! ### An open edge (O44) -/

theorem edgeReaches_iff (z : ZoneIx) (r : SectionRec) : edgeReaches z r = true ↔ z = 0 ∨ r.zone = z := by
  simp [edgeReaches]

/-- R136: the states that an open edge ends. -/
theorem SectionRec.openEdge_moved {z : ZoneIx} {r : SectionRec} (reached : z = 0 ∨ r.zone = z)
    (watched : r.state = .armed ∨ r.state = .settling ∨ r.state = .blind) : r.openEdge z = r.enterDormant := by
  have reaches := (edgeReaches_iff z r).mpr reached
  rcases watched with h | h | h <;> simp only [SectionRec.openEdge, reaches, h, if_true]

theorem SectionRec.openEdge_left {z : ZoneIx} {r : SectionRec}
    (h : ¬ ((z = 0 ∨ r.zone = z) ∧ (r.state = .armed ∨ r.state = .settling ∨ r.state = .blind))) :
    r.openEdge z = r := by
  unfold SectionRec.openEdge
  split
  · rename_i reaches
    have resting := fun watched => h ⟨(edgeReaches_iff z r).mp reaches, watched⟩
    split <;> simp_all
  · rfl

/-- R136: an open edge leaves a CONFIRMED record, and makes none. -/
theorem SectionRec.openEdge_confirmed_iff (z : ZoneIx) (r : SectionRec) :
    (r.openEdge z).state = .confirmed ↔ r.state = .confirmed := by
  rcases r.openEdge_cases z with e | ⟨e, watched⟩
  · rw [e]
  · rw [e]
    rcases watched with h | h | h <;> simp [SectionRec.enterDormant, h]

theorem SectionRec.openEdge_of_confirmed (z : ZoneIx) {r : SectionRec} (h : r.state = .confirmed) :
    r.openEdge z = r :=
  SectionRec.openEdge_left (by simp [h])

theorem SectionRec.openEdge_kept (z : ZoneIx) (r : SectionRec) :
    (r.openEdge z).mark = r.mark ∧ (r.openEdge z).tripZone = r.tripZone ∧ (r.openEdge z).escalated = r.escalated := by
  rcases r.openEdge_cases z with e | ⟨e, -⟩ <;> rw [e] <;> exact ⟨rfl, rfl, rfl⟩

/-- R136: the records once an open edge has moved those it sends to DORMANT. -/
def Device.parked (p : Device) (z : ZoneIx) : Device := p.mapSections fun _ r => r.openEdge z

/-- R145, R148: the records that an open edge isolates. -/
def Device.tripSections (p : Device) (z : ZoneIx) : List SecIx :=
  match (p.zones.get z).seq with
  | .idle => []
  | .tripping => (p.zones.get z).causes
  | .hanging => p.failedIn z

/-- R145, R148, R152: the zone back in IDLE, its outcome latched. -/
def Zone.ended (kind : OutcomeKind) (escalated : Bool) (l : List SecIx) (y : Zone) : Zone :=
  { y.endTrip with latch := some { sectionOutcome kind y.manual escalated l with overwritten := y.latch.isSome } }

section
variable {p : Device} {z : ZoneIx}

theorem Device.failedIn_iff (i : SecIx) :
    i ∈ p.failedIn z ↔ (p.sections.get i).state = .confirmed ∧ (p.sections.get i).mark = .failed
      ∧ (p.sections.get i).tripZone = z := by
  simp [Device.failedIn, and_assoc]

/-- R145, R148: only CONFIRMED records are isolated. -/
theorem Device.tripSections_confirmed (lawful : p.causesLawful) {i : SecIx} (h : i ∈ p.tripSections z) :
    (p.sections.get i).state = .confirmed := by
  unfold Device.tripSections at h
  split at h
  · cases h
  · obtain ⟨-, listed, -⟩ := lawful
    exact ((listed z i).mp h).1
  · exact ((Device.failedIn_iff i).mp h).1

/-- R148: the moves into DORMANT leave the records that have failed. -/
theorem Device.failedIn_parked : (p.parked z).failedIn z = p.failedIn z := by
  refine List.filter_congr fun i _ => ?_
  obtain ⟨mark, tripZone, -⟩ := (p.sections.get i).openEdge_kept z
  rw [Bool.eq_iff_iff]
  simp [Device.parked, SectionRec.openEdge_confirmed_iff, mark, tripZone]

theorem Device.anyEscalated_parked (l : List SecIx) : (p.parked z).anyEscalated l = p.anyEscalated l := by
  simp [Device.anyEscalated, Device.parked, SectionRec.openEdge_kept]

theorem Device.openEdge_of_idle (h : (p.zones.get z).seq = .idle) : p.openEdge z = p.parked z := by
  simp only [Device.openEdge, Device.mapSections_zones, h]
  rfl

/-- R145, R148: a trip ended, as one write of the records and one of the zone. -/
theorem Device.endTrip_eq (kind : OutcomeKind) (escalated : Bool) (l : List SecIx) :
    (let q := (p.mapListed l SectionRec.isolate).latchOutcome z
       (sectionOutcome kind (p.zones.get z).manual escalated l)
     q.setZone z (q.zones.get z).endTrip)
      = (p.mapListed l SectionRec.isolate).setZone z ((p.zones.get z).ended kind escalated l) := by
  simp only [Device.latchOutcome, Device.setZone, Table.get_set_self, Table.set_set]
  rfl

theorem Device.openEdge_of_tripping (h : (p.zones.get z).seq = .tripping) :
    p.openEdge z = ((p.parked z).mapListed (p.zones.get z).causes SectionRec.isolate).setZone z
      ((p.zones.get z).ended .opened (p.anyEscalated (p.zones.get z).causes) (p.zones.get z).causes) := by
  rw [← Device.anyEscalated_parked (z := z)]
  simp only [Device.openEdge, Device.mapSections_zones, h]
  exact Device.endTrip_eq (p := p.parked z) _ _ _

theorem Device.openEdge_of_hanging (h : (p.zones.get z).seq = .hanging) :
    p.openEdge z = ((p.parked z).mapListed (p.failedIn z) SectionRec.isolate).setZone z
      ((p.zones.get z).ended .lateOpen (p.anyEscalated (p.failedIn z)) (p.failedIn z)) := by
  rw [← Device.anyEscalated_parked (z := z), ← Device.failedIn_parked]
  simp only [Device.openEdge, Device.mapSections_zones, h]
  exact Device.endTrip_eq (p := p.parked z) _ _ _

theorem Device.openEdge_frame : p.openEdge z = { p with
    sections := (p.openEdge z).sections, zones := (p.openEdge z).zones } := by
  cases h : (p.zones.get z).seq with
  | idle => rw [Device.openEdge_of_idle h]; rfl
  | tripping => rw [Device.openEdge_of_tripping h]; rfl
  | hanging => rw [Device.openEdge_of_hanging h]; rfl

/-- R136, R145, R148: what an open edge makes of each record. -/
theorem Device.openEdge_record (i : SecIx) : (p.openEdge z).sections.get i =
    if i ∈ p.tripSections z then ((p.sections.get i).openEdge z).isolate else (p.sections.get i).openEdge z := by
  cases h : (p.zones.get z).seq with
  | idle => simp [Device.openEdge_of_idle h, Device.tripSections, h, Device.parked]
  | tripping => simp [Device.openEdge_of_tripping h, Device.tripSections, h, Device.parked]
  | hanging => simp [Device.openEdge_of_hanging h, Device.tripSections, h, Device.parked]

/-- R136, R145, R148: a record is CONFIRMED where the trip ends it, so none both goes to DORMANT and is isolated. -/
theorem Device.openEdge_moves (lawful : p.causesLawful) (i : SecIx) :
    let r := p.sections.get i
    let q := p.openEdge z
    let moved := (z = 0 ∨ r.zone = z) ∧ (r.state = .armed ∨ r.state = .settling ∨ r.state = .blind)
    (moved → q.sections.get i = r.enterDormant) ∧ (i ∈ p.tripSections z → q.sections.get i = r.isolate)
      ∧ (¬ moved → i ∉ p.tripSections z → q.sections.get i = r) := by
  have confirmed : i ∈ p.tripSections z → (p.sections.get i).state = .confirmed :=
    Device.tripSections_confirmed lawful
  dsimp only
  rw [Device.openEdge_record]
  refine ⟨fun ⟨reached, watched⟩ => ?_, fun listed => ?_, fun left unlisted => ?_⟩
  · have unlisted : i ∉ p.tripSections z := fun listed => by simp [confirmed listed] at watched
    rw [if_neg unlisted, SectionRec.openEdge_moved reached watched]
  · rw [if_pos listed, SectionRec.openEdge_of_confirmed z (confirmed listed)]
  · rw [if_neg unlisted, SectionRec.openEdge_left left]

end

/-- R148: the failed records of a trip zone, as the statement lists them. -/
theorem Device.failedIn_eq (p : Device) (z : ZoneIx) :
    p.failedIn z = (List.finRange 128).filter fun i =>
      decide ((p.sections.get i).state = .confirmed ∧ (p.sections.get i).mark = .failed
        ∧ (if (p.sections.get i).escalated then (0 : ZoneIx) else (p.sections.get i).zone) = z) := by
  refine List.filter_congr fun i _ => ?_
  rw [Bool.eq_iff_iff]
  simp [SectionRec.tripZone, and_assoc]

/-- Settles O44: the sequencer's state names the records isolated and the outcome. -/
theorem openEdgeMovesRecordsAndEndsTrip : Obligations.OpenEdgeMovesRecordsAndEndsTrip := by
  intro p z lawful
  dsimp only
  rw [← p.failedIn_eq z]
  refine ⟨Device.openEdge_frame, Device.openEdge_moves lawful, fun idle => ?_, fun busy => ?_, fun hung => ?_⟩
  · rw [Device.openEdge_of_idle idle]
    rfl
  · rw [Device.openEdge_of_tripping busy, busy]
    rfl
  · rw [Device.openEdge_of_hanging hung, hung]
    rfl

/-! ### A close edge (O45) -/

/-- R137: a close edge of zone z energizes DORMANT record `i`. -/
def Device.wakes (p : Device) (z : ZoneIx) (i : SecIx) : Bool :=
  (p.sections.get i).state == .dormant && edgeReaches z (p.sections.get i) && p.energized (p.sections.get i).zone

/-- R137: record `i` after a close edge of zone z. -/
def Device.wokenRecord (p : Device) (z : ZoneIx) (i : SecIx) : SectionRec :=
  let r := p.sections.get i
  if p.wakes z i then (if p.namesBadNode r then r.enterBlind else r.enterSettling (p.profileOf r)) else r

section
variable {p q : Device} {z : ZoneIx} {i : SecIx} {l : List SecIx}

theorem Device.wakes_iff : p.wakes z i = true ↔ (p.sections.get i).state = .dormant
    ∧ (z = 0 ∨ (p.sections.get i).zone = z) ∧ p.energized (p.sections.get i).zone = true := by
  simp [Device.wakes, edgeReaches_iff, and_assoc]

theorem Device.sectionFlagIf_sect (p : Device) (b : Bool) :
    (p.sectionFlagIf b).alerts.flags.sect = (p.alerts.flags.sect || b) := by
  cases b <;> simp [Device.sectionFlagIf]

/-- R137: the work on one record, as one write and one flag. -/
theorem Device.closeEdgeRecord_eq : Device.closeEdgeRecord z p i =
    (p.setSection i (p.wokenRecord z i)).sectionFlagIf (p.wakes z i && p.namesBadNode (p.sections.get i)) := by
  have test : ((p.sections.get i).state = .dormant ∧ edgeReaches z (p.sections.get i) = true
      ∧ p.energized (p.sections.get i).zone = true) ↔ p.wakes z i = true := by
    rw [Device.wakes_iff, edgeReaches_iff]
  simp only [Device.closeEdgeRecord, test, Device.placeEnergized, Device.wokenRecord]
  cases p.wakes z i with
  | true => cases p.namesBadNode (p.sections.get i) <;> rfl
  | false => simp [Device.setSection, Device.sectionFlagIf]

/-- R137: `q` is `p` with a close edge's work done on the records of a list. -/
structure Device.Woken (z : ZoneIx) (p : Device) (l : List SecIx) (q : Device) : Prop where
  kept : p.SameButTrip q
  zones : q.zones = p.zones
  records : ∀ i, q.sections.get i = if i ∈ l then p.wokenRecord z i else p.sections.get i
  flag : q.alerts.flags.sect = true ↔
    p.alerts.flags.sect = true ∨ ∃ i ∈ l, p.wakes z i = true ∧ p.namesBadNode (p.sections.get i) = true

/-- R137: the work on a record not yet reached finds all that it looks at as the edge did. -/
theorem Device.Woken.next (h : Device.Woken z p l q) (new : i ∉ l) :
    Device.Woken z p (l ++ [i]) (Device.closeEdgeRecord z q i) := by
  obtain ⟨-, -, -, nodes, -, -, profiles, -⟩ := id h.kept
  have record : q.sections.get i = p.sections.get i := (h.records i).trans (if_neg new)
  have bad : q.namesBadNode (p.sections.get i) = p.namesBadNode (p.sections.get i) := by
    simp only [Device.namesBadNode, nodes]
  have wakes : q.wakes z i = p.wakes z i := by simp only [Device.wakes, Device.energized, record, h.zones]
  have woken : q.wokenRecord z i = p.wokenRecord z i := by
    simp only [Device.wokenRecord, Device.profileOf, record, wakes, bad, profiles]
  rw [Device.closeEdgeRecord_eq, record, wakes, bad, woken]
  refine ⟨h.kept.trans ((q.setSection_sameButTrip i _).trans (Device.sectionFlagIf_sameButTrip _ _)), ?_,
    fun j => ?_, ?_⟩
  · rw [Device.sectionFlagIf_zones]
    exact h.zones
  · rw [Device.sectionFlagIf_sections, Device.setSection_sections, Table.get_set, h.records j]
    by_cases e : j = i <;> simp [e]
  · rw [Device.sectionFlagIf_sect, Device.setSection_alerts, Bool.or_eq_true, h.flag, Bool.and_eq_true]
    simp only [List.mem_append, List.mem_singleton, or_and_right, exists_or, exists_eq_left, or_assoc]

theorem Device.closeEdge_woken (p : Device) (z : ZoneIx) :
    Device.Woken z p (List.finRange 128) (p.closeEdge z) := by
  have fold : ∀ l : List SecIx, l.Nodup → Device.Woken z p l (l.foldl (Device.closeEdgeRecord z) p) := by
    intro l
    induction l using List.reverseRecOn with
    | nil => exact fun _ => ⟨.refl p, rfl, fun _ => rfl, by simp⟩
    | append_singleton l i ih =>
      intro distinct
      obtain ⟨before, -, apart⟩ := List.nodup_append.mp distinct
      rw [List.foldl_append]
      exact (ih before).next fun listed => apart i listed i (List.mem_singleton_self i) rfl
  exact fold _ (List.nodup_finRange 128)

end

/-- Settles O45: every record is reached once, and its work looks at nothing that the others' work moves. -/
theorem closeEdgeWakesDormantRecords : Obligations.CloseEdgeWakesDormantRecords := by
  intro p z
  have woken := p.closeEdge_woken z
  dsimp only
  simp only [← Device.namesBadNode_iff, ← Device.wakes_iff]
  refine ⟨fun i => ?_, ?_, ?_⟩
  · rw [woken.records i, if_pos (List.mem_finRange i), Device.wokenRecord]
    refine ⟨fun wakes bad => ?_, fun wakes good => ?_, fun asleep => ?_⟩
    · rw [if_pos wakes, if_pos bad]
    · rw [if_pos wakes, if_neg good]
      rfl
    · rw [if_neg asleep]
  · have frame := woken.kept.eq
    rwa [woken.zones] at frame
  · simpa only [List.mem_finRange, true_and] using woken.flag

end Sys2Proof.Machine

/-! ## The zone commands (O47, O48) -/

namespace Sys2Proof.Machine

/-! ### SET ZONE and READ ZONE (O47) -/

/-- R130, R131: the settings that parameters in range give, the two lengths clamped. -/
def ZoneSettings.sent (hazard : Hazard) (tripEnable escalationEnable : Bool) (timeout : Half) (debounce : Byte)
    (lowOpen : Bool) : ZoneSettings :=
  ⟨hazard, tripEnable, escalationEnable, clamp 20 2000 timeout.toNat, clamp 0 20 debounce.toNat,
    if lowOpen then .lowOpen else .highOpen⟩

theorem polarityParam_flag (lowOpen : Bool) :
    polarityParam (if lowOpen then 0x01#8 else 0x00#8) = some (if lowOpen then .lowOpen else .highOpen) := by
  cases lowOpen <;> decide

theorem zoneSettings_sent (hazard : Hazard) (te ee : Bool) (t : Half) (debounce : Byte) (lowOpen : Bool) :
    zoneSettings hazard.code (if te then 0x01#8 else 0x00#8) (if ee then 0x01#8 else 0x00#8) t debounce
      (if lowOpen then 0x01#8 else 0x00#8) = some (.sent hazard te ee t debounce lowOpen) := by
  simp only [zoneSettings, hazardParam_code, flagParam_flag, polarityParam_flag]
  rfl

theorem zoneSettings_none {h te ee pol : Byte} (t : Half) (debounce : Byte)
    (out : 2 < h.toNat ∨ 1 < te.toNat ∨ 1 < ee.toNat ∨ 1 < pol.toNat) :
    zoneSettings h te ee t debounce pol = none := by
  unfold zoneSettings
  split
  · rename_i hazard trip escalation polarity
    rcases out with out | out | out | out
    · rw [hazardParam_none out] at hazard; cases hazard
    · rw [flagParam_none out] at trip; cases trip
    · rw [flagParam_none out] at escalation; cases escalation
    · rw [polarityParam_none out] at polarity; cases polarity
  · rfl

/-- R180: CLAMPED tells a value that differs from what was sent. -/
theorem okOrClamped_of_values (a b c d : Nat) :
    (okOrClamped (a != b || c != d)).byte = if a = b ∧ c = d then 0x00#8 else 0x01#8 := by
  by_cases first : a = b <;> by_cases second : c = d <;> simp [first, second, okOrClamped, ResultCode.byte]

theorem Polarity.code_eq (pol : Polarity) : pol.code = flagByte (decide (pol = .lowOpen)) := by cases pol <;> rfl

section
variable {p : Device} {z : ZoneIx} {zone h te ee pol : Byte} {t : Half} {debounce : Byte}

theorem Device.setZoneCommand_badIndex (above : 4 ≤ zone.toNat) :
    p.setZoneCommand zone h te ee t debounce pol = p.refuse .badIndex := by
  simp only [Device.setZoneCommand, indexParam_none above]

theorem Device.setZoneCommand_badValue (out : 2 < h.toNat ∨ 1 < te.toNat ∨ 1 < ee.toNat ∨ 1 < pol.toNat) :
    p.setZoneCommand (natByte z.val) h te ee t debounce pol = p.refuse .badValue := by
  simp only [Device.setZoneCommand, zoneParam, zoneSettings_none t debounce out]

theorem Device.setZoneCommand_accepted (hazard : Hazard) (te ee lowOpen : Bool) :
    p.setZoneCommand (natByte z.val) hazard.code (if te then 0x01#8 else 0x00#8) (if ee then 0x01#8 else 0x00#8) t
        debounce (if lowOpen then 0x01#8 else 0x00#8) =
      (p.applyZone z (.sent hazard te ee t debounce lowOpen)).accept
        (okOrClamped (clamp 20 2000 t.toNat != t.toNat || clamp 0 20 debounce.toNat != debounce.toNat)) := by
  simp only [Device.setZoneCommand, zoneParam, zoneSettings_sent]
  rfl

/-- R134: the edge that new settings make. -/
theorem Device.afterBreaker_setZone (y : Zone) (wasOpen : Bool) :
    (p.setZone z y).afterBreaker z wasOpen =
      if y.isOpen = wasOpen then p.setZone z y
      else if y.isOpen then (p.setZone z y).openEdge z else (p.setZone z y).closeEdge z := by
  simp only [Device.afterBreaker, Device.setZone_zones, Table.get_set_self]

theorem Device.readZone_badIndex (above : 4 ≤ zone.toNat) : p.readZone zone = p.refuse .badIndex := by
  simp only [Device.readZone, indexParam_none above]

theorem Device.readZone_accepted : p.readZone (natByte z.val) = (p, [ResultCode.ok.byte] ++ p.zoneBytes z) := by
  simp only [Device.readZone, zoneParam]

end

/-- Settles O47: the index is judged before the values; the settings are written, then the polarity's edge is taken,
then the requests that the trip enable releases. -/
theorem zoneCommandsWriteAndRead : Obligations.ZoneCommandsWriteAndRead := by
  intro s t debounce p
  refine ⟨fun zone h te ee pol above => ⟨State.next_answered (Device.setZoneCommand_badIndex above),
      State.next_answered (Device.readZone_badIndex above)⟩,
    fun z h te ee pol out => State.next_answered (Device.setZoneCommand_badValue out),
    fun z hazard te ee lowOpen => ?_, fun z => ?_⟩
  · extract_lets y hazardByte flag timeout settle new written turned released
    have code : hazardByte = hazard.code := by cases hazard <;> rfl
    have limit : clamp 0 20 debounce.toNat = settle := by rw [clamp, Nat.zero_max]
    have edge : (p.setZone z new).afterBreaker z y.isOpen = turned := Device.afterBreaker_setZone new y.isOpen
    have settings : y.withSettings (.sent hazard te ee t debounce lowOpen) = new := by
      simp only [Zone.withSettings, ZoneSettings.sent, limit]
      rfl
    rw [code]
    refine (State.next_answered (Device.setZoneCommand_accepted hazard te ee lowOpen)).trans ?_
    rw [Device.accept_fst, Device.accept_snd, okOrClamped_of_values, limit, Device.applyZone, settings, edge]
    rfl
  · refine (State.next_answered Device.readZone_accepted).trans ?_
    rw [Device.zoneBytes, Polarity.code_eq]
    rfl

/-! ### TRIP ZONE, RELEASE TRIP and SENSE OUTCOME (O48) -/

section
variable {p : Device} {z : ZoneIx} {zone : Byte}

theorem Device.tripZone_badIndex (above : 4 ≤ zone.toNat) : p.tripZone zone = p.refuse .badIndex := by
  simp only [Device.tripZone, indexParam_none above]

theorem Device.tripZone_starts (idle : (p.zones.get z).seq = .idle) (closed : (p.zones.get z).isOpen = false) :
    p.tripZone (natByte z.val) = (p.setZone z ((p.zones.get z).startTrip p.now [] true)).accept .ok := by
  simp only [Device.tripZone, zoneParam, idle, closed, Bool.false_eq_true, if_false]

theorem Device.tripZone_alreadyOpen (idle : (p.zones.get z).seq = .idle) (isOpen : (p.zones.get z).isOpen = true) :
    p.tripZone (natByte z.val) = (p.latchOutcome z manualAlreadyOpen).accept .ok := by
  simp only [Device.tripZone, zoneParam, idle, isOpen, if_true]

theorem Device.tripZone_joins (busy : (p.zones.get z).seq = .tripping) :
    p.tripZone (natByte z.val) = (p.setZone z { p.zones.get z with manual := true }).accept .ok := by
  simp only [Device.tripZone, zoneParam, busy]

theorem Device.tripZone_badState (hung : (p.zones.get z).seq = .hanging) :
    p.tripZone (natByte z.val) = p.refuse .badState := by
  simp only [Device.tripZone, zoneParam, hung]

theorem Device.releaseTrip_badIndex (above : 4 ≤ zone.toNat) : p.releaseTrip zone = p.refuse .badIndex := by
  simp only [Device.releaseTrip, indexParam_none above]

theorem Device.releaseTrip_badState (h : (p.zones.get z).seq ≠ .hanging) :
    p.releaseTrip (natByte z.val) = p.refuse .badState := by
  simp only [Device.releaseTrip, zoneParam]
  split
  · exact absurd ‹_› h
  · rfl
  · rfl

theorem Device.releaseTrip_ends (hung : (p.zones.get z).seq = .hanging) :
    p.releaseTrip (natByte z.val) = (p.setZone z (p.zones.get z).endTrip).accept .ok := by
  simp only [Device.releaseTrip, zoneParam, hung]

theorem Device.senseOutcome_none (h : ∀ z, (p.zones.get z).latch = none) : p.senseOutcome = p.accept .none := by
  have empty : p.fullLatch = none := by simp [Device.fullLatch, h]
  simp only [Device.senseOutcome, empty]

/-- R154: the lowest-numbered full latch is the one read. -/
theorem Device.fullLatch_some {o : OutcomeRec} (full : (p.zones.get z).latch = some o)
    (first : ∀ w, w < z → (p.zones.get w).latch = none) : p.fullLatch = some z :=
  find?_finRange (by rw [full]; rfl) fun w below => by rw [first w below]; rfl

theorem Device.senseOutcome_first {o : OutcomeRec} (full : (p.zones.get z).latch = some o)
    (first : ∀ w, w < z → (p.zones.get w).latch = none) :
    p.senseOutcome = (p.setZone z { p.zones.get z with latch := none }, [ResultCode.ok.byte] ++ o.bytes z) := by
  simp only [Device.senseOutcome, Device.fullLatch_some full first, full, Option.elim_some]

end

/-- R154: the byte of the first section, 0 when there is none. -/
theorem firstSection_eq (first : Option SecIx) : first.elim 0 Fin.val = (first.map Fin.val).getD 0 := by
  cases first <;> rfl

/-- Settles O48: the sequencer's state names the answer, and the first full latch is the one sensed. -/
theorem tripCommandsAnswerBySequencer : Obligations.TripCommandsAnswerBySequencer := by
  refine fun s => ⟨fun zone above => ⟨State.next_answered (Device.tripZone_badIndex above),
      State.next_answered (Device.releaseTrip_badIndex above)⟩,
    fun z => ⟨fun idle closed => State.next_answered (Device.tripZone_starts idle closed),
      fun idle isOpen => State.next_answered (Device.tripZone_alreadyOpen idle isOpen),
      fun busy => State.next_answered (Device.tripZone_joins busy),
      fun hung => State.next_answered (Device.tripZone_badState hung),
      fun other => State.next_answered (Device.releaseTrip_badState other),
      fun hung => State.next_answered (Device.releaseTrip_ends hung)⟩,
    fun empty => State.next_answered (Device.senseOutcome_none empty), fun z o full first => ?_⟩
  refine (State.next_answered (Device.senseOutcome_first full first)).trans ?_
  rw [OutcomeRec.bytes, firstSection_eq]
  rfl

end Sys2Proof.Machine

/-! ## HOLD PERMIT, CLEAR ALERTS and SET ALERT ENABLE (O49) -/

namespace Sys2Proof.Machine

/-! ### The masks of marks -/

/-- R163: a byte of 64 and up carries a mark beyond the six. -/
theorem maskGood_of_high {mask : Byte} (high : 64 ≤ mask.toNat) : maskGood mask = false := by
  by_contra good
  obtain ⟨six, seven⟩ : mask.getLsbD 6 = false ∧ mask.getLsbD 7 = false := by simpa [maskGood] using good
  have below : mask.toNat < 2 ^ 6 := Nat.lt_pow_two_of_testBit _ fun i hi => by
    change mask.getLsbD i = false
    obtain rfl | rfl | past : i = 6 ∨ i = 7 ∨ 8 ≤ i := by omega
    · exact six
    · exact seven
    · exact BitVec.getLsbD_of_ge _ _ past
  omega

section
variable (e : AlertEnables)

theorem AlertEnables.maskGood_byte : maskGood e.byte = true := by
  simp [maskGood, AlertEnables.byte, bits8, BitVec.getElem_cons]

/-- R164, R165: a mask reads back as the enables it was written from. -/
theorem AlertEnables.ofMask_byte : AlertEnables.ofMask e.byte = e := by
  simp [AlertEnables.ofMask, AlertEnables.byte, bits8, BitVec.getElem_cons]

/-- R163: the sixth mark, OUTCOME, clears nothing. -/
theorem AlertEnables.clear_byte (f : StickyFlags) :
    f.clear e.byte = ⟨f.sect && !e.sect, f.node && !e.node, f.stranger && !e.stranger, f.link && !e.link,
      f.sync && !e.sync⟩ := by
  simp [StickyFlags.clear, AlertEnables.byte, bits8, BitVec.getElem_cons]

end

/-! ### The commands -/

section
variable {p : Device} {z : ZoneIx} {zone hold mask : Byte}

theorem Device.holdPermit_badIndex (above : 4 ≤ zone.toNat) : p.holdPermit zone hold = p.refuse .badIndex := by
  simp only [Device.holdPermit, indexParam_none above]

theorem Device.holdPermit_badValue (above : 1 < hold.toNat) :
    p.holdPermit (natByte z.val) hold = p.refuse .badValue := by
  simp only [Device.holdPermit, zoneParam, flagParam_none above]

theorem Device.holdPermit_accepted (held : Bool) :
    p.holdPermit (natByte z.val) (if held then 0x01#8 else 0x00#8) =
      (p.setZone z { p.zones.get z with hold := held }).accept .ok := by
  simp only [Device.holdPermit, zoneParam, flagParam_flag]

theorem Device.clearAlerts_badValue (high : 64 ≤ mask.toNat) : p.clearAlerts mask = p.refuse .badValue := by
  simp only [Device.clearAlerts, maskGood_of_high high, Bool.false_eq_true, if_false]

theorem Device.setAlertEnable_badValue (high : 64 ≤ mask.toNat) : p.setAlertEnable mask = p.refuse .badValue := by
  simp only [Device.setAlertEnable, maskGood_of_high high, Bool.false_eq_true, if_false]

theorem Device.clearAlerts_accepted (e : AlertEnables) :
    p.clearAlerts e.byte =
      Device.accept { p with alerts := { p.alerts with flags :=
        ⟨p.alerts.flags.sect && !e.sect, p.alerts.flags.node && !e.node, p.alerts.flags.stranger && !e.stranger,
          p.alerts.flags.link && !e.link, p.alerts.flags.sync && !e.sync⟩ } } .ok := by
  simp only [Device.clearAlerts, e.maskGood_byte, if_true, e.clear_byte]

theorem Device.setAlertEnable_accepted (e : AlertEnables) :
    p.setAlertEnable e.byte = Device.accept { p with alerts := { p.alerts with enables := e } } .ok := by
  simp only [Device.setAlertEnable, e.maskGood_byte, if_true, e.ofMask_byte]

end

/-- Settles O49: the index is judged before the value, a mark beyond the six is refused, and a good mask is the byte
of the enables it writes. -/
theorem holdAndAlertCommandsWriteFlags : Obligations.HoldAndAlertCommandsWriteFlags := by
  refine fun s => ⟨fun zone hold above => State.next_answered (Device.holdPermit_badIndex above),
    fun z hold above => State.next_answered (Device.holdPermit_badValue above),
    fun z hold => State.next_answered (Device.holdPermit_accepted hold),
    fun mask high => ⟨State.next_answered (Device.clearAlerts_badValue high),
      State.next_answered (Device.setAlertEnable_badValue high)⟩,
    fun sect node stranger link sync outcome => ?_⟩
  let e : AlertEnables := ⟨sect, node, stranger, link, sync, outcome⟩
  dsimp only
  rw [← marksByte_eq]
  exact ⟨State.next_answered (Device.clearAlerts_accepted e), State.next_answered (Device.setAlertEnable_accepted e)⟩

end Sys2Proof.Machine

/-! ## Command words and the status byte (O54, O52) -/

namespace Sys2Proof

/-! ### Fields of two and three bytes -/

theorem half_halfBytes (h : Half) : half (hiByte h) (loByte h) = h := BitVec.extractLsb'_append_extractLsb'

theorem halfBytes_half (hi lo : Byte) : halfBytes (half hi lo) = [hi, lo] := by
  have high : hiByte (half hi lo) = hi := BitVec.extractLsb'_append_eq_left
  have low : loByte (half hi lo) = lo := BitVec.extractLsb'_append_eq_right
  rw [halfBytes, high, low]

theorem addr3_addrBytes (a : Addr) : addr3 (a.extractLsb' 16 8) (a.extractLsb' 8 8) (a.extractLsb' 0 8) = a := by
  have upper : a.extractLsb' 16 8 ++ a.extractLsb' 8 8 = a.extractLsb' 8 16 :=
    BitVec.extractLsb'_append_extractLsb'_eq_extractLsb' rfl
  rw [addr3, upper]
  exact BitVec.extractLsb'_append_extractLsb' (w := 16) (len := 8)

theorem addrBytes_addr3 (hi mid lo : Byte) : addrBytes (addr3 hi mid lo) = [hi, mid, lo] := by
  have high : (addr3 hi mid lo).extractLsb' 16 8 = hi :=
    (BitVec.extractLsb'_append_eq_of_le (by decide)).trans BitVec.extractLsb'_append_eq_left
  have middle : (addr3 hi mid lo).extractLsb' 8 8 = mid :=
    (BitVec.extractLsb'_append_eq_of_le (by decide)).trans BitVec.extractLsb'_append_eq_right
  have low : (addr3 hi mid lo).extractLsb' 0 8 = lo := BitVec.extractLsb'_append_eq_right
  rw [addrBytes, high, middle, low]

/-! ### Command words (O54) -/

/-- A command written reads back: its code names it, and its fields stand in their places. -/
theorem decodeCommand_encodeCommand {c : Instr} {bytes : List Byte} (h : encodeCommand c = some bytes) :
    decodeCommand bytes = some c := by
  cases c
  all_goals cases h
  all_goals
    refine (rfl : decodeCommand _ = some _).trans ?_
    simp only [half_halfBytes, addr3_addrBytes]

section
variable {code : Nat} {ps : List Byte} {c : Instr}

/-! Under each code of a table, bytes are taken until as many are known as the code fixes: one less, or one more,
reads as no command, and the command read writes those bytes. -/

theorem encodeCommand_of_configuration (below : code < 0x20) (h : decodeConfiguration code ps = some c) :
    encodeCommand c = some (BitVec.ofNat 8 code :: ps) := by
  interval_cases code
  all_goals repeat' first | cases h | rcases ps with _ | ⟨_, ps⟩
  all_goals simp [encodeCommand, halfBytes_half, addrBytes_addr3]

theorem encodeCommand_of_nodes (above : 0x20 ≤ code) (below : code < 0x30) (h : decodeNodes code ps = some c) :
    encodeCommand c = some (BitVec.ofNat 8 code :: ps) := by
  interval_cases code
  all_goals repeat' first | cases h | rcases ps with _ | ⟨_, ps⟩
  all_goals simp [encodeCommand, addrBytes_addr3]

theorem encodeCommand_of_sections (above : 0x30 ≤ code) (below : code < 0x40) (h : decodeSections code ps = some c) :
    encodeCommand c = some (BitVec.ofNat 8 code :: ps) := by
  interval_cases code
  all_goals repeat' first | cases h | rcases ps with _ | ⟨_, ps⟩
  all_goals simp [encodeCommand, halfBytes_half]

theorem encodeCommand_of_zonesDevice (above : 0x40 ≤ code) (below : code < 0x100)
    (h : decodeZonesDevice code ps = some c) : encodeCommand c = some (BitVec.ofNat 8 code :: ps) := by
  interval_cases code
  all_goals repeat' first | cases h | rcases ps with _ | ⟨_, ps⟩
  all_goals simp [encodeCommand, halfBytes_half]

end

/-- A command read writes the bytes it was read from. -/
theorem encodeCommand_decodeCommand {c : Instr} {bytes : List Byte} (h : decodeCommand bytes = some c) :
    encodeCommand c = some bytes := by
  rcases bytes with _ | ⟨code, ps⟩
  · cases h
  · have named : BitVec.ofNat 8 code.toNat = code := (BitVec.ofNat_toNat 8 code).trans (BitVec.setWidth_eq code)
    have byte := code.isLt
    rw [← named]
    simp only [decodeCommand] at h
    split at h
    · exact encodeCommand_of_configuration ‹_› h
    · split at h
      · exact encodeCommand_of_nodes (by omega) ‹_› h
      · split at h
        · exact encodeCommand_of_sections (by omega) ‹_› h
        · exact encodeCommand_of_zonesDevice (by omega) byte h

/-- Section 9.6: a command is written with as many parameter bytes as its code fixes. -/
theorem paramCount_of_encodeCommand {c : Instr} {code : Byte} {ps : List Byte}
    (h : encodeCommand c = some (code :: ps)) : paramCount code = some ps.length := by
  cases c
  all_goals cases h
  all_goals rfl

/-- Settles O54: each direction by the bytes of each command, and the count of the parameter bytes by what the
command read would write. -/
theorem commandWordsReadAndWriteAgree : Obligations.CommandWordsReadAndWriteAgree := by
  refine ⟨fun _ _ => decodeCommand_encodeCommand, fun _ _ => encodeCommand_decodeCommand, rfl, fun code ps =>
    ⟨fun read => ?_, decodeCommand_isSome⟩⟩
  obtain ⟨c, spells⟩ := Option.isSome_iff_exists.mp read
  exact paramCount_of_encodeCommand (encodeCommand_decodeCommand spells)

end Sys2Proof

namespace Sys2Proof.Machine

/-! ### The status byte (O52) -/

/-- A byte from its bits: each counts by its place. -/
theorem bits8_toNat (b7 b6 b5 b4 b3 b2 b1 b0 : Bool) :
    (bits8 b7 b6 b5 b4 b3 b2 b1 b0).toNat =
      b7.toNat * 128 + b6.toNat * 64 + b5.toNat * 32 + b4.toNat * 16 + b3.toNat * 8 + b2.toNat * 4 + b1.toNat * 2
        + b0.toNat := by
  simp only [bits8, BitVec.toNat_cons', Nat.shiftLeft_eq, BitVec.toNat_zero_length]
  omega

/-- A flag's place value, as the rules write it. -/
theorem placeValue_eq (b : Bool) (v : Nat) : (if b then v else 0) = b.toNat * v := by cases b <;> simp

theorem Device.statusByte_toNat (p : Device) :
    p.statusByte.toNat = p.port.state.ready.toNat * 128 + p.port.state.direction.toNat * 64
      + p.port.state.busy.toNat * 32 + (p.alert.toNat * 16 + p.outcomeFlag.toNat * 8 + p.link.amnesia.toNat * 4
        + p.port.overrun.toNat * 2 + p.port.abandoned.toNat * 1) := by
  rw [Device.statusByte, bits8_toNat]
  omega

/-- R162: ALERT stands with OUTCOME where its enable is on. -/
theorem Device.alert_of_outcome {p : Device} (full : p.outcomeFlag = true)
    (enabled : p.alerts.enables.outcome = true) : p.alert = true := by
  simp only [Device.alert, full, enabled, Bool.and_self, Bool.or_true]

/-- Settles O52: the byte is the sum of its bits' places, of which READY, DIRECTION and BUSY are the port state's. -/
theorem statusByteCarriesIndications : Obligations.StatusByteCarriesIndications := by
  intro p
  have sum := p.statusByte_toNat
  simp only [placeValue_eq]
  refine ⟨sum, fun state => ?_, fun state => ?_, fun state => ?_, fun state => ?_,
    fun state full enabled overrun heard kept => BitVec.eq_of_toNat_eq ?_⟩
  all_goals rw [sum, state]
  case refine_5 =>
    rw [Device.alert_of_outcome full enabled, full, overrun, heard, kept]
    rfl
  all_goals simp [PortState.ready, PortState.direction, PortState.busy]

end Sys2Proof.Machine

/-! ## The bytes of a transaction (O51) -/

namespace Sys2Proof.Machine

/-- A row that makes of the part what `d` is. -/
theorem State.run_withDevice {s : State} {f : Device → Device} {d : Device} (h : f s.device = d) :
    s.run f = .next (s.withDevice d) := by
  rw [State.run_eq, h]
  rfl

/-- R168: the transaction starts where the passing of time to its moment has left the part. -/
theorem exec_transactionStart {s : State} {m : Moment} {d : Device} (h : (s.device.passTo m).transactionStart = d) :
    exec (.transactionStart m) s = .next (s.withDevice d) :=
  State.run_withDevice (f := fun p => (p.passTo m).transactionStart) h

section
variable {p : Device}

/-! ### The start and the end of a transaction (R168, R172) -/

theorem Device.transactionStart_high (high : p.port.csLow = false) :
    p.transactionStart = (p.withPort fun h => { h with csLow := true, xfer := .access }).beginStatus :=
  if_neg (by simp [high])

theorem Device.transactionStart_low (low : p.port.csLow = true) : p.transactionStart = p := if_pos low

theorem Device.transactionEnd_settled (low : p.port.csLow = true) (settled : p.port.state ≠ .collecting) :
    p.transactionEnd = p.withPort HostPort.release :=
  (if_pos low).trans (if_neg settled)

theorem Device.transactionEnd_collecting (low : p.port.csLow = true) (collecting : p.port.state = .collecting) :
    p.transactionEnd = p.withPort fun h => h.abandon.release :=
  (if_pos low).trans (if_pos collecting)

/-! ### The access byte (R169, R175, R176) -/

theorem Device.accessByte_status (access : p.port.xfer = .access) :
    p.accessByte 0xA0#8 = (p.withPort fun h => { h with xfer := .status }).beginStatus :=
  if_pos access

theorem Device.accessByte_write (access : p.port.xfer = .access) :
    p.accessByte 0xA1#8 = (p.withPort fun h => { h with xfer := .write }).beginStatus :=
  if_pos access

theorem Device.accessByte_read (access : p.port.xfer = .access) (result : p.port.state = .result) :
    p.accessByte 0xA2#8 = (p.withPort fun h => { h with xfer := .readResult }).beginByte p.port.resultByte := by
  have kind : p.port.accessKind 0xA2#8 = .readResult := if_pos result
  simp only [Device.accessByte, access, if_true, Device.withPort, kind]
  rfl

theorem Device.accessByte_read_empty (access : p.port.xfer = .access) (empty : p.port.state ≠ .result) :
    p.accessByte 0xA2#8 = (p.withPort fun h => { h with xfer := .readNothing }).beginByte 0x00#8 := by
  have kind : p.port.accessKind 0xA2#8 = .readNothing := if_neg empty
  simp only [Device.accessByte, access, if_true, Device.withPort, kind]

theorem Device.accessByte_other {b : Byte} (access : p.port.xfer = .access) (status : b ≠ 0xA0#8)
    (write : b ≠ 0xA1#8) (read : b ≠ 0xA2#8) :
    p.accessByte b = (p.withPort fun h => { h with xfer := .ignored }).beginByte 0x00#8 := by
  have kind : p.port.accessKind b = .ignored := by simp only [HostPort.accessKind, status, write, read, if_false]
  simp only [Device.accessByte, access, if_true, Device.withPort, kind]

/-! ### A WRITE transaction (R171, R172, R174) -/

section
variable {b : Byte} (write : p.port.xfer = .write)
include write

theorem Device.codeByte_unknown (idle : p.port.state = .idle) (unknown : paramCount b = none) :
    p.codeByte b = (p.withPort fun h => h.giveResult [ResultCode.unknownCommand.byte]).beginStatus := by
  simp only [Device.codeByte, write, idle, and_self, if_true, HostPort.takeCode, unknown]

theorem Device.codeByte_whole (idle : p.port.state = .idle) (whole : paramCount b = some 0) :
    p.codeByte b =
      (p.withPort fun h => { h with state := .executing, cmd := [b], begun := some p.now }).beginStatus := by
  simp only [Device.codeByte, write, idle, and_self, if_true, HostPort.takeCode, whole]

theorem Device.codeByte_first (idle : p.port.state = .idle) {n : Nat} (more : paramCount b = some (n + 1)) :
    p.codeByte b = (p.withPort fun h => { h with state := .collecting, cmd := [b] }).beginStatus := by
  simp only [Device.codeByte, write, idle, and_self, if_true, HostPort.takeCode, more]

section
variable {code : Byte} {ps : List Byte} {n : Nat} (collecting : p.port.state = .collecting)
  (held : p.port.cmd = code :: ps) (known : paramCount code = some n)
include collecting held known

theorem Device.parameterByte_more (more : ps.length + 1 < n) :
    p.parameterByte b = (p.withPort fun h => { h with cmd := h.cmd ++ [b] }).beginStatus := by
  have short : ¬ p.port.wanted ≤ p.port.cmd.length := by simp [HostPort.wanted, held, known]; omega
  simp only [Device.parameterByte, write, collecting, and_self, if_true, Device.withPort, HostPort.takeParameter,
    short, if_false]

theorem Device.parameterByte_last (last : ps.length + 1 = n) :
    p.parameterByte b =
      (p.withPort fun h => { h with state := .executing, cmd := h.cmd ++ [b], begun := some p.now }).beginStatus := by
  have complete : p.port.wanted ≤ p.port.cmd.length := by simp [HostPort.wanted, held, known, last]
  simp only [Device.parameterByte, write, collecting, and_self, if_true, Device.withPort, HostPort.takeParameter,
    complete]

end

theorem Device.overrunByte_discarded (taken : p.port.state = .executing ∨ p.port.state = .result) :
    p.overrunByte b = (p.withPort fun h => { h with overrun := true, begun := none }).beginStatus :=
  if_pos ⟨write, taken⟩

end

/-! ### READ and STATUS transactions (R175, R179) -/

theorem Device.resultByteRead_more (reads : p.port.xfer = .readResult) (result : p.port.state = .result)
    (more : p.port.readPos + 1 < p.port.result.length) :
    p.resultByteRead = (p.withPort fun h => { h with readPos := h.readPos + 1 }).beginByte
      (p.port.result.getD (p.port.readPos + 1) 0x00#8) := by
  have consumed : p.port.consume = { p.port with readPos := p.port.readPos + 1 } := if_neg (Nat.not_le.mpr more)
  simp only [Device.resultByteRead, reads, result, and_self, if_true, Device.withPort, consumed]
  rfl

theorem Device.resultByteRead_last (reads : p.port.xfer = .readResult) (result : p.port.state = .result)
    (last : p.port.readPos + 1 = p.port.result.length) :
    p.resultByteRead =
      (p.withPort fun h => { h with state := .idle, result := [], readPos := 0 }).beginByte 0x00#8 := by
  have consumed : p.port.consume = { p.port with state := .idle, result := [], readPos := 0 } := if_pos last.ge
  simp only [Device.resultByteRead, reads, result, and_self, if_true, Device.withPort, consumed]
  rfl

theorem Device.statusByteRead_shown {shown : Byte} (status : p.port.xfer = .status) (miso : p.port.miso = some shown) :
    p.statusByteRead = (p.withPort fun h => h.clearShown shown).beginStatus := by
  simp only [Device.statusByteRead, status, if_true, Device.withPort, miso, Option.getD_some]

end

/-- Settles O51: what each byte makes of the part, by the transaction, the port's state and the buffers. -/
theorem transactionBytesMovePort : Obligations.TransactionBytesMovePort := by
  intro s m b
  have port : (s.device.passTo m).port = s.device.port := s.device.passTo_port m
  refine ⟨fun high => exec_transactionStart (Device.transactionStart_high (by rw [port, high])),
    fun low => exec_transactionStart (Device.transactionStart_low (by rw [port, low])),
    fun access => ⟨State.run_withDevice (Device.accessByte_status access),
      State.run_withDevice (Device.accessByte_write access),
      fun result => State.run_withDevice (Device.accessByte_read access result),
      fun empty => State.run_withDevice (Device.accessByte_read_empty access empty),
      fun status write read => State.run_withDevice (Device.accessByte_other access status write read)⟩,
    fun write idle => ⟨fun unknown => State.run_withDevice (Device.codeByte_unknown write idle unknown),
      fun whole => State.run_withDevice (Device.codeByte_whole write idle whole),
      fun n more => State.run_withDevice (Device.codeByte_first write idle more)⟩,
    fun code ps n write collecting held known =>
      ⟨fun more => State.run_withDevice (Device.parameterByte_more write collecting held known more),
        fun last => State.run_withDevice (Device.parameterByte_last write collecting held known last)⟩,
    fun write taken => State.run_withDevice (Device.overrunByte_discarded write taken),
    fun reads result => ⟨fun more => State.run_withDevice (Device.resultByteRead_more reads result more),
      fun last => State.run_withDevice (Device.resultByteRead_last reads result last)⟩,
    fun shown status miso => State.run_withDevice (Device.statusByteRead_shown status miso),
    fun low settled => State.run_withDevice (Device.transactionEnd_settled low settled),
    fun low collecting => State.run_withDevice (Device.transactionEnd_collecting low collecting)⟩

end Sys2Proof.Machine

/-! ## What a host command returns (O53, O3) -/

namespace Sys2Proof.Machine

/-! ### Result codes (R180) -/

/-- A refusal's code, of those that an owning block answers; UNKNOWN COMMAND is the port's own (R171). -/
def ResultCode.refuses : ResultCode → Bool
  | .ok | .clamped | .none | .unknownCommand => false
  | .badIndex | .badState | .inUse | .badTopology | .notReady | .duplicateAddress | .badValue | .busy => true

/-- The code of a command that was accepted, and gives what section 9.6 says. -/
def ResultCode.accepts : ResultCode → Bool
  | .ok | .clamped => true
  | .none | .unknownCommand | .badIndex | .badState | .inUse | .badTopology | .notReady | .duplicateAddress | .badValue
  | .busy => false

theorem okOrClamped_accepts (clamped : Bool) : (okOrClamped clamped).accepts = true := by cases clamped <;> rfl

/-- The result codes of R180 that an owning block answers. -/
def answerCodes : List Byte :=
  [0x00#8, 0x01#8, 0x02#8, 0x81#8, 0x82#8, 0x83#8, 0x84#8, 0x85#8, 0x86#8, 0x87#8, 0x88#8]

theorem ResultCode.refuses_byte {code : ResultCode} (h : code.refuses = true) :
    code.byte ∈ answerCodes ∧ 0x80 ≤ code.byte.toNat := by
  cases code
  case ok | clamped | none | unknownCommand => cases h
  all_goals decide

theorem ResultCode.accepts_byte {code : ResultCode} (h : code.accepts = true) :
    code.byte ∈ answerCodes ∧ code.byte.toNat < 0x02 := by
  cases code
  case ok | clamped => decide
  all_goals cases h

/-! ### Answers -/

/-- The answering of a command moves neither the Host Port, nor time, nor the free values. -/
structure Device.SameHost (p q : Device) : Prop where
  port : q.port = p.port
  now : q.now = p.now
  choices : q.choices = p.choices

theorem Device.KeptByWork.sameHost {p q : Device} (h : p.KeptByWork q) : p.SameHost q := by
  obtain ⟨-, -, -, -, -, port, now, choices, -⟩ := h
  exact ⟨port, now, choices⟩

theorem Device.SameButTrip.sameHost {p q : Device} (h : p.SameButTrip q) : p.SameHost q := h.kept.sameHost

theorem Device.SameHost.refl (p : Device) : p.SameHost p := ⟨rfl, rfl, rfl⟩

theorem Device.SameHost.trans {p q r : Device} (h : p.SameHost q) (k : q.SameHost r) : p.SameHost r :=
  ⟨k.port.trans h.port, k.now.trans h.now, k.choices.trans h.choices⟩

/-- The commands that can find nothing to return (R27, R154). -/
def mayReturnNone (c : Instr) : Prop := c = .senseOutcome ∨ ∃ a f k v, c = .scanSections a f k v

/-- R180, R181: what command `c` can answer: a refusal or NONE, the part as it was, or an accepting code and the bytes
that section 9.6 gives it. -/
inductive Device.Replies (p : Device) (c : Instr) : Answer → Prop
  | refused {code : ResultCode} (refuses : code.refuses = true) : p.Replies c (p, [code.byte])
  | nothing (may : mayReturnNone c) : p.Replies c (p, [0x02#8])
  | gives {q : Device} {code : ResultCode} {rest : List Byte} (accepts : code.accepts = true) (same : p.SameHost q)
      (length : rest.length + 1 = resultLength c) : p.Replies c (q, code.byte :: rest)

section
variable {p q : Device} {c : Instr}

/-- A code alone. -/
theorem Device.Replies.done {code : ResultCode} (accepts : code.accepts = true) (same : p.SameHost q)
    (alone : resultLength c = 1) : p.Replies c (q.accept code) :=
  .gives accepts same alone.symm

/-- A read. -/
theorem Device.Replies.read {rest : List Byte} (length : rest.length + 1 = resultLength c) :
    p.Replies c (p, [ResultCode.ok.byte] ++ rest) :=
  .gives rfl (.refl p) length

theorem Device.Replies.sameHost {a : Answer} (h : p.Replies c a) : p.SameHost a.1 := by
  cases h with
  | refused | nothing => exact .refl p
  | gives _ same => exact same

end

section
variable (p : Device)

/-! Link and clock -/

theorem Device.setLinkRate_replies (rate : Byte) : p.Replies (.setLinkRate rate) (p.setLinkRate rate) := by
  unfold Device.setLinkRate
  split
  · exact .refused rfl
  · exact .done rfl ⟨rfl, rfl, rfl⟩ rfl

theorem Device.setFeederId_replies (id : Byte) : p.Replies (.setFeederId id) (p.setFeederId id) := by
  unfold Device.setFeederId
  split
  · exact .refused rfl
  · exact .done rfl ⟨rfl, rfl, rfl⟩ rfl

theorem Device.readLinkCounters_replies : p.Replies .readLinkCounters p.readLinkCounters :=
  .gives (code := .ok) rfl ⟨rfl, rfl, rfl⟩ rfl

theorem Device.setEpochClock_replies (src per gr : Byte) (lim win : Half) (miss : Byte) :
    p.Replies (.setEpochClock src per gr lim win miss) (p.setEpochClock src per gr lim win miss) := by
  unfold Device.setEpochClock
  split
  · exact .refused rfl
  · exact .done (okOrClamped_accepts _) ⟨rfl, rfl, rfl⟩ rfl

theorem Device.readEpochClock_replies : p.Replies .readEpochClock p.readEpochClock :=
  .gives (code := .ok) rfl (.refl p) rfl

theorem Device.restart_replies : p.Replies .restartEvaluation p.restart := by
  unfold Device.restart
  split
  · exact .refused rfl
  · exact .done rfl ⟨rfl, rfl, rfl⟩ rfl

/-! Profiles -/

theorem Device.loadProfile_replies {c : Instr} (alone : resultLength c = 1) (index : Byte) (sent : Profile) :
    p.Replies c (p.loadProfile index sent) := by
  unfold Device.loadProfile
  split
  · exact .refused rfl
  · exact .done (okOrClamped_accepts _) ⟨rfl, rfl, rfl⟩ alone

theorem Device.readProfile_replies (index : Byte) : p.Replies (.readProfile index) (p.readProfile index) := by
  unfold Device.readProfile
  split
  · exact .refused rfl
  · exact .read rfl

/-! Nodes and strangers -/

theorem Device.bindNode_replies (node : Byte) (addr : Addr) (phs : Byte) :
    p.Replies (.bindNode node addr phs) (p.bindNode node addr phs) := by
  unfold Device.bindNode
  repeat' split
  case h_2.isFalse.isFalse => exact .done rfl ⟨rfl, rfl, rfl⟩ rfl
  all_goals exact .refused rfl

theorem Device.unbind_replies (node : Byte) : p.Replies (.unbindNode node) (p.unbind node) := by
  unfold Device.unbind
  repeat' split
  case h_2.isFalse.isFalse => exact .done rfl ⟨rfl, rfl, rfl⟩ rfl
  all_goals exact .refused rfl

theorem Device.readNode_replies (node : Byte) : p.Replies (.readNode node) (p.readNode node) := by
  unfold Device.readNode
  split
  · exact .refused rfl
  · exact .read rfl

theorem Device.readStrangers_replies : p.Replies .readStrangers p.readStrangers :=
  by
  have count : (strangerBytes (p.strangers.get 0) ++ strangerBytes (p.strangers.get 1)
      ++ strangerBytes (p.strangers.get 2) ++ [natByte p.overwrites]).length = 25 := by simp [strangerBytes_length]
  exact .gives (code := .ok) rfl (.refl p) (congrArg (· + 1) count)

theorem Device.clearStranger_replies (slot : Byte) : p.Replies (.clearStranger slot) (p.clearStranger slot) := by
  unfold Device.clearStranger
  split
  · exact .refused rfl
  · exact .done rfl ⟨rfl, rfl, rfl⟩ rfl

/-! Sections -/

/-- R14: every check of CREATE SECTION refuses. -/
theorem Device.createCheck_refuses {i : SecIx} {u : NodeIx} {s : PhaseSet} {code : ResultCode}
    (h : p.createCheck i u s = some code) : code.refuses = true := by
  unfold Device.createCheck at h
  repeat' split at h
  all_goals cases h
  all_goals rfl

theorem Device.createSection_replies (sec up zone phs prof : Byte) :
    p.Replies (.createSection sec up zone phs prof) (p.createSection sec up zone phs prof) := by
  unfold Device.createSection
  split
  · split
    · split
      · exact .refused (p.createCheck_refuses ‹_›)
      · exact .done rfl ⟨rfl, rfl, rfl⟩ rfl
    · exact .refused rfl
  · exact .refused rfl

theorem Device.editNodeCheck_refuses {i : SecIx} {earlier : List NodeIx} {n : NodeIx} {code : ResultCode}
    (h : p.editNodeCheck i earlier n = some code) : code.refuses = true := by
  unfold Device.editNodeCheck at h
  dsimp only at h
  repeat' split at h
  all_goals cases h
  all_goals rfl

/-- R16: whichever node fails a check, and whichever check, EDIT SECTION is refused. -/
theorem Device.editCheck_refuses {i : SecIx} {earlier new : List NodeIx} {code : ResultCode}
    (h : p.editCheck i earlier new = some code) : code.refuses = true := by
  induction new generalizing earlier with
  | nil => cases h
  | cons n rest ih =>
    rw [Device.editCheck] at h
    split at h
    · cases h
      exact p.editNodeCheck_refuses ‹_›
    · exact ih h

theorem Device.editSection_replies (sec n1 n2 n3 n4 : Byte) (ta tb tc : Half) :
    p.Replies (.editSection sec n1 n2 n3 n4 ta tb tc) (p.editSection sec n1 n2 n3 n4 ta tb tc) := by
  unfold Device.editSection
  split
  · split
    · exact .refused rfl
    · split
      · exact .refused (p.editCheck_refuses ‹_›)
      · exact .done (okOrClamped_accepts _) ⟨rfl, rfl, rfl⟩ rfl
  · exact .refused rfl

theorem Device.commitSection_replies (sec : Byte) : p.Replies (.commitSection sec) (p.commitSection sec) := by
  unfold Device.commitSection
  repeat' split
  case h_2.isFalse.isFalse => exact .done rfl (p.place_sameButTrip _ _).sameHost rfl
  all_goals exact .refused rfl

theorem Device.recallSection_replies (sec : Byte) : p.Replies (.recallSection sec) (p.recallSection sec) := by
  unfold Device.recallSection
  split
  · exact .refused rfl
  · split
    case h_7 | h_8 | h_9 => exact .refused rfl
    all_goals exact .done rfl ⟨rfl, rfl, rfl⟩ rfl

theorem Device.tuneSection_replies (sec profile : Byte) (ta tb tc : Half) :
    p.Replies (.tuneSection sec profile ta tb tc) (p.tuneSection sec profile ta tb tc) := by
  unfold Device.tuneSection
  dsimp only
  split
  · split
    · exact .done (okOrClamped_accepts _) ⟨rfl, rfl, rfl⟩ rfl
    · exact .refused rfl
  · exact .refused rfl

theorem Device.acknowledgeSection_replies (sec : Byte) :
    p.Replies (.acknowledgeSection sec) (p.acknowledgeSection sec) := by
  unfold Device.acknowledgeSection
  split
  · exact .refused rfl
  · split
    · exact .done rfl (p.place_sameButTrip _ _).sameHost rfl
    · exact .refused rfl

theorem Device.retireSection_replies (sec : Byte) : p.Replies (.retireSection sec) (p.retireSection sec) := by
  unfold Device.retireSection
  split
  · exact .refused rfl
  · split
    · exact .done rfl ⟨rfl, rfl, rfl⟩ rfl
    · exact .refused rfl

theorem Device.readSection_replies (sec : Byte) : p.Replies (.readSection sec) (p.readSection sec) := by
  unfold Device.readSection
  split
  · exact .refused rfl
  · exact .read (by rw [SectionRec.bytes_length]; rfl)

theorem Device.scanSections_replies (start field comparison key : Byte) :
    p.Replies (.scanSections start field comparison key) (p.scanSections start field comparison key) := by
  unfold Device.scanSections
  split
  · exact .refused rfl
  · split
    · exact .refused rfl
    · split
      · exact .refused rfl
      · split
        · exact .read rfl
        · exact .nothing (.inr ⟨_, _, _, _, rfl⟩)

/-! Zones and alerts -/

theorem Device.setZoneCommand_replies (zone hz te ee : Byte) (tmo : Half) (db pol : Byte) :
    p.Replies (.setZone zone hz te ee tmo db pol) (p.setZoneCommand zone hz te ee tmo db pol) := by
  unfold Device.setZoneCommand
  split
  · exact .refused rfl
  · split
    · exact .refused rfl
    · exact .done (okOrClamped_accepts _) (p.applyZone_sameButTrip _ _).sameHost rfl

theorem Device.readZone_replies (zone : Byte) : p.Replies (.readZone zone) (p.readZone zone) := by
  unfold Device.readZone
  split
  · exact .refused rfl
  · exact .read rfl

theorem Device.tripZone_replies (zone : Byte) : p.Replies (.tripZone zone) (p.tripZone zone) := by
  unfold Device.tripZone
  split
  · exact .refused rfl
  · dsimp only
    repeat' split
    case h_3 => exact .refused rfl
    all_goals exact .done rfl ⟨rfl, rfl, rfl⟩ rfl

theorem Device.releaseTrip_replies (zone : Byte) : p.Replies (.releaseTrip zone) (p.releaseTrip zone) := by
  unfold Device.releaseTrip
  split
  · exact .refused rfl
  · split
    · exact .done rfl ⟨rfl, rfl, rfl⟩ rfl
    · exact .refused rfl
    · exact .refused rfl

/-- R154: the latch sensed is full, and gives nine bytes after its code. -/
theorem Device.senseOutcome_replies : p.Replies .senseOutcome p.senseOutcome := by
  unfold Device.senseOutcome
  split
  · exact .nothing (.inl rfl)
  · rename_i z found
    have full : (p.zones.get z).latch.isSome = true :=
      List.find?_some (p := fun z => (p.zones.get z).latch.isSome) found
    obtain ⟨o, latch⟩ := Option.isSome_iff_exists.mp full
    rw [latch]
    exact .gives rfl ⟨rfl, rfl, rfl⟩ rfl

theorem Device.holdPermit_replies (zone hold : Byte) : p.Replies (.holdPermit zone hold) (p.holdPermit zone hold) := by
  unfold Device.holdPermit
  split
  · exact .refused rfl
  · split
    · exact .refused rfl
    · exact .done rfl ⟨rfl, rfl, rfl⟩ rfl

theorem Device.clearAlerts_replies (mask : Byte) : p.Replies (.clearAlerts mask) (p.clearAlerts mask) := by
  unfold Device.clearAlerts
  split
  · exact .done rfl ⟨rfl, rfl, rfl⟩ rfl
  · exact .refused rfl

theorem Device.setAlertEnable_replies (mask : Byte) : p.Replies (.setAlertEnable mask) (p.setAlertEnable mask) := by
  unfold Device.setAlertEnable
  split
  · exact .done rfl ⟨rfl, rfl, rfl⟩ rfl
  · exact .refused rfl

theorem Device.readDevice_replies : p.Replies .readDevice p.readDevice :=
  .gives (code := .ok) rfl (.refl p) rfl

/-! ### Every host command (O53) -/

/-- R83: the part as command `c` finds it: one that reaches the slots waits for the work in hand. -/
def Device.asTaken : Instr → Device
  | .setEpochNumber _ | .restartEvaluation | .unbindNode _ => p.finishWork
  | _ => p

variable {c : Instr}

theorem Device.asTaken_of_reaches (h : reachesSlots c) : p.asTaken c = p.finishWork := by
  cases c with
  | setEpochNumber | restartEvaluation | unbindNode => rfl
  | _ => exact absurd h id

theorem Device.asTaken_of_not (h : ¬ reachesSlots c) : p.asTaken c = p := by
  cases c with
  | setEpochNumber | restartEvaluation | unbindNode => exact absurd trivial h
  | _ => rfl

theorem Device.asTaken_sameHost (c : Instr) : p.SameHost (p.asTaken c) := by
  by_cases h : reachesSlots c
  · rw [p.asTaken_of_reaches h]
    exact (p.finishWork_kept).1.sameHost
  · rw [p.asTaken_of_not h]
    exact .refl p

end

/-- A command that may return NONE does not wait for the work in hand. -/
theorem not_reachesSlots_of_mayReturnNone {c : Instr} (h : mayReturnNone c) : ¬ reachesSlots c := by
  rcases h with rfl | ⟨_, _, _, _, rfl⟩ <;> exact id

/-- R173: every host command is taken at one step, and answers as its rule has it. -/
theorem exec_replies {c : Instr} (s : State) (hc : hostCommand c) :
    ∃ a, (s.device.asTaken c).Replies c a ∧ exec c s = .next (s.answered a.1 a.2) := by
  cases c with
  | setLinkRate => exact ⟨_, s.device.setLinkRate_replies _, rfl⟩
  | setJoinFilter v m => exact ⟨s.device.setJoinFilter v m, .done rfl ⟨rfl, rfl, rfl⟩ rfl, rfl⟩
  | setFeederId => exact ⟨_, s.device.setFeederId_replies _, rfl⟩
  | readLinkCounters => exact ⟨_, s.device.readLinkCounters_replies, rfl⟩
  | setEpochClock => exact ⟨_, s.device.setEpochClock_replies _ _ _ _ _ _, rfl⟩
  | readEpochClock => exact ⟨_, s.device.readEpochClock_replies, rfl⟩
  | setEpochNumber n => exact ⟨s.device.setEpochNumber n, .done rfl ⟨rfl, rfl, rfl⟩ rfl, rfl⟩
  | restartEvaluation => exact ⟨_, s.device.finishWork.restart_replies, rfl⟩
  | loadProfile => exact ⟨_, s.device.loadProfile_replies rfl _ _, rfl⟩
  | readProfile => exact ⟨_, s.device.readProfile_replies _, rfl⟩
  | bindNode => exact ⟨_, s.device.bindNode_replies _ _ _, rfl⟩
  | unbindNode => exact ⟨_, s.device.finishWork.unbind_replies _, rfl⟩
  | readNode => exact ⟨_, s.device.readNode_replies _, rfl⟩
  | readStrangers => exact ⟨_, s.device.readStrangers_replies, rfl⟩
  | clearStranger => exact ⟨_, s.device.clearStranger_replies _, rfl⟩
  | createSection => exact ⟨_, s.device.createSection_replies _ _ _ _ _, rfl⟩
  | editSection => exact ⟨_, s.device.editSection_replies _ _ _ _ _ _ _ _, rfl⟩
  | commitSection => exact ⟨_, s.device.commitSection_replies _, rfl⟩
  | recallSection => exact ⟨_, s.device.recallSection_replies _, rfl⟩
  | tuneSection => exact ⟨_, s.device.tuneSection_replies _ _ _ _ _, rfl⟩
  | acknowledgeSection => exact ⟨_, s.device.acknowledgeSection_replies _, rfl⟩
  | retireSection => exact ⟨_, s.device.retireSection_replies _, rfl⟩
  | readSection => exact ⟨_, s.device.readSection_replies _, rfl⟩
  | scanSections => exact ⟨_, s.device.scanSections_replies _ _ _ _, rfl⟩
  | setZone => exact ⟨_, s.device.setZoneCommand_replies _ _ _ _ _ _ _, rfl⟩
  | readZone => exact ⟨_, s.device.readZone_replies _, rfl⟩
  | tripZone => exact ⟨_, s.device.tripZone_replies _, rfl⟩
  | releaseTrip => exact ⟨_, s.device.releaseTrip_replies _, rfl⟩
  | senseOutcome => exact ⟨_, s.device.senseOutcome_replies, rfl⟩
  | holdPermit => exact ⟨_, s.device.holdPermit_replies _ _, rfl⟩
  | clearAlerts => exact ⟨_, s.device.clearAlerts_replies _, rfl⟩
  | setAlertEnable => exact ⟨_, s.device.setAlertEnable_replies _, rfl⟩
  | readDevice => exact ⟨_, s.device.readDevice_replies, rfl⟩
  | _ => exact absurd hc Bool.false_ne_true

/-- The free value of log entry 12 is asked where the byte on MISO began at this very moment, and only there. -/
theorem State.answered_choices (s : State) (d : Device) (r : List Byte) :
    (s.answered d r).device.choices = if d.port.begun = some d.now then d.choices + 1 else d.choices := by
  unfold State.answered
  dsimp only
  split <;> rfl

/-- What answering a command makes of the Host Port, of time and of the free values, where the owning block left
them. -/
theorem State.answered_host {s : State} {d : Device} (same : s.device.SameHost d) (r : List Byte) :
    (s.answered d r).device.now = s.device.now
      ∧ (s.answered d r).device.port =
        { s.device.port with
          state := .result, cmd := [], result := r, readPos := 0, begun := none
          miso := (s.answered d r).device.port.miso }
      ∧ (s.device.port.begun ≠ some s.device.now →
          (s.answered d r).device.port.miso = s.device.port.miso
            ∧ (s.answered d r).device.choices = s.device.choices)
      ∧ (s.device.port.begun = some s.device.now →
          (s.answered d r).device.choices = s.device.choices + 1
            ∧ ((s.answered d r).device.port.miso = s.device.port.miso
              ∨ (s.answered d r).device.port.miso = some (s.answered d r).device.statusByte)) := by
  have port := s.answered_port d r
  have miso := s.answered_miso d r
  have choices := s.answered_choices d r
  rw [same.port] at port miso choices
  rw [same.now] at miso choices
  rw [same.choices] at choices
  refine ⟨(s.answered_now d r).trans same.now, port, fun before => ⟨?_, ?_⟩,
    fun began => ⟨?_, miso.imp_right And.right⟩⟩
  · exact miso.resolve_right fun ⟨began, _⟩ => before began
  · rw [choices, if_neg before]
  · rw [choices, if_pos began]

/-- Settles O53: the owning block's answer is a refusal, NONE, or what section 9.6 gives, and the Host Port stands as it
was but for what the answer makes of it. -/
theorem everyHostCommandReturnsOneResult : Obligations.EveryHostCommandReturnsOneResult := by
  intro s c hc
  obtain ⟨a, replies, answered⟩ := exec_replies s hc
  obtain ⟨now, port, before, began⟩ :=
    State.answered_host ((s.device.asTaken_sameHost c).trans replies.sameHost) a.2
  cases replies with
  | @refused code refuses =>
    obtain ⟨known, high⟩ := ResultCode.refuses_byte refuses
    refine ⟨_, code.byte, [], answered, rfl, now, port, before, began, known,
      fun _ => ⟨rfl, fun direct => ?_, fun waits => ?_⟩, fun none => ?_, fun accepted => ?_⟩
    · rw [s.device.asTaken_of_not direct]
    · rw [s.device.asTaken_of_reaches waits]
    · rw [none] at high
      exact absurd high (by decide)
    · rcases accepted with byte | byte
      all_goals
        rw [byte] at high
        exact absurd high (by decide)
  | nothing may =>
    refine ⟨_, 0x02#8, [], answered, rfl, now, port, before, began, by decide, fun high => absurd high (by decide),
      fun _ => ⟨rfl, ?_, may⟩, fun accepted => absurd accepted (by decide)⟩
    rw [s.device.asTaken_of_not (not_reachesSlots_of_mayReturnNone may)]
  | @gives q code rest accepts _ length =>
    obtain ⟨known, low⟩ := ResultCode.accepts_byte accepts
    refine ⟨_, code.byte, rest, answered, rfl, now, port, before, began, known, fun high => ?_, fun none => ?_,
      fun _ => length⟩
    · omega
    · rw [none] at low
      exact absurd low (by decide)

/-! ### The end of EXECUTING (O3) -/

/-- Settles O3: the first step raises the command in hand, and the second takes it. -/
theorem executingEndsInResult : Obligations.ExecutingEndsInResult := by
  intro s c empty _ held due rest
  have host : hostCommand c := by simp [hostCommand, encodeCommand_decodeCommand held]
  have at_rest : s.device.held.inHand = false := by simp [HeldWork.inHand, rest]
  have raises : step s = .next (s.raise c) := by rw [step, empty, State.idle_row due at_rest]
  have takes : step (s.raise c) = exec c s := by
    obtain ⟨device, pending⟩ := s
    cases empty
    rfl
  obtain ⟨u, code, bytes, taken, pending, now, port, -⟩ := everyHostCommandReturnsOneResult s c host
  refine ⟨s.raise c, u, raises, takes.trans taken, taken, pending.trans empty, now, ?_⟩
  rw [port]
  exact ⟨rfl, rfl, List.cons_ne_nil _ _, rfl⟩

end Sys2Proof.Machine

/-! ## The front of the queue (O1), and the laws at reset (O60) -/

namespace Sys2Proof.Machine

/-- Settles O1: the match on the queue finds the command at its front. -/
theorem stepTakesFrontCommand : Obligations.StepTakesFrontCommand := by
  intro s c q waiting
  rw [step, waiting]

/-- R115, R116: the Profile Table at its defaults. -/
theorem Device.afterReset_profilesLawful (pins : ResetPins) (now choices : Nat) :
    (Device.afterReset pins (Table.replicate 8 Profile.default) now choices).profilesLawful := fun i =>
  (congrArg Profile.lawful (Table.get_replicate Profile.default i)).mpr Profile.default_lawful

/-- Settles O60: each block by its law at any reset, whatever its pins. -/
theorem everyLawHoldsAtReset : Obligations.EveryLawHoldsAtReset := by
  have registry : State.reset.device.RegistryLawful := Device.afterReset_registry _ _ _ _
  have trips : State.reset.device.tripsLawful := Device.afterReset_tripsLawful _ _ _ _
  have quiet : State.reset.device.Quiet := Device.afterReset_quiet _ _ _ _
  exact ⟨Device.afterReset_profilesLawful _ _ _, EpochClock.afterReset_lawful, LinkReceiver.afterReset_lawful _,
    HostPort.afterReset_lawful _, registry.names.nodes, registry.names.topology, registry.names.strangers,
    registry.slots, trips, quiet.amnesiaLawful⟩

end Sys2Proof.Machine
